-- ==== Sys2Proof/Word.lean ====
section
/-! DEFINITION. The words of the hardware and the plain record shapes the other files share (00_scope.md R9). -/

namespace Sys2Proof

/-- One byte of main memory or texture memory (20_memory.md R80). -/
abbrev Byte := BitVec 8

/-- A 16-bit halfword (20_memory.md R84). -/
abbrev Half := BitVec 16

/-- A 32-bit word, the unit of the command stream (30_encoding.md R120). -/
abbrev Word := BitVec 32

/-- A colour of four components (10_state.md R33, R65). -/
structure Rgba (α : Type) where
  r : α
  g : α
  b : α
  a : α
deriving DecidableEq, Repr

/-- The three colour channels of a chroma key register (10_state.md R34). -/
structure Rgb (α : Type) where
  r : α
  g : α
  b : α
deriving DecidableEq, Repr

/-- One value for each of the eight interpolated quantities of a primitive (46_edge_walker.md R363). -/
structure Attr8 (α : Type) where
  r : α
  g : α
  b : α
  a : α
  s : α
  t : α
  w : α
  z : α
deriving DecidableEq, Repr

/-- One value for each of the four sub-scanlines of a scanline (00_scope.md R7, SUBSCANLINES). -/
structure Quad (α : Type) where
  q0 : α
  q1 : α
  q2 : α
  q3 : α
deriving DecidableEq, Repr

/-- Sparse storage: the listed (key, value) pairs of an array whose unlisted entries hold one common value. -/
abbrev Cells (α : Type) := List (Nat × α)

end Sys2Proof
end

