-- ==== Sys2Proof/Machine/Arith.lean ====
section
/-! DEFINITION. The integer operators of the pseudocode (00_scope.md R10) and the reading of a register as an integer. -/

namespace Sys2Proof.Machine

/-- `zext_n(v)` (R10). -/
def zext (n : Nat) (v : Int) : Int := v % 2 ^ n

/-- `sext_n(v)`, `n` at least 1 (R10). -/
def sext (n : Nat) (v : Int) : Int :=
  let u := v % 2 ^ n
  if u ≥ 2 ^ (n - 1) then u - 2 ^ n else u

/-- `v >> n`, the arithmetic shift (R10). -/
def asr (v : Int) (n : Nat) : Int := v / 2 ^ n

/-- `v[i]` of the two's-complement expansion (R9, R10). -/
def bitAt (v : Int) (i : Nat) : Bool := v / 2 ^ i % 2 == 1

/-- `v[lo+n-1:lo]`, the field of `n` bits whose lowest bit is bit `lo` (R9). -/
def bitsAt (v : Int) (lo n : Nat) : Int := v / 2 ^ lo % 2 ^ n

/-- `v & ~(2^n - 1)`: the low `n` bits cleared (R10). -/
def clearLow (v : Int) (n : Nat) : Int := v - v % 2 ^ n

/-- `~v` (R10). -/
def inv (v : Int) : Int := -v - 1

/-- `clip(v, lo, hi)` (R10). -/
def clip (v lo hi : Int) : Int := if v < lo then lo else if v > hi then hi else v

/-- A bitwise operator on two's-complement expansions, evaluated on the low `n` bits; used where the result has no bits above
them (R10). -/
def bitwise (op : Nat → Nat → Nat) (n : Nat) (a b : Int) : Int :=
  ((op (zext n a).toNat (zext n b).toNat : Nat) : Int)

/-- The low `n` bits of `a & b` (R10). -/
def andBits (n : Nat) (a b : Int) : Int := bitwise Nat.land n a b

/-- The low `n` bits of `a | b` (R10). -/
def orBits (n : Nat) (a b : Int) : Int := bitwise Nat.lor n a b

/-- The low `n` bits of `a ^ b` (R10). -/
def xorBits (n : Nat) (a b : Int) : Int := bitwise Nat.xor n a b

/-- The index of the highest set bit of a positive number; 0 for 0. -/
def msb (v : Int) : Nat := v.toNat.log2

/-- A truth value as an integer (R10). -/
def ofFlag (b : Bool) : Int := if b then 1 else 0

/-- A register read as an unsigned integer. -/
def unsigned {n : Nat} (v : BitVec n) : Int := (v.toNat : Int)

/-- A register read as a two's-complement integer. -/
def signed {n : Nat} (v : BitVec n) : Int := v.toInt

/-- `popcount` of an 8-bit value (R10). -/
def popcount8 (m : Byte) : Nat := ((List.range 8).filter fun i => m.getLsbD i).length

/-- The integers from `first` to `last` in order; none if `last < first`. -/
def rangeTo (first last : Int) : List Int := (List.range (last - first + 1).toNat).map fun (k : Nat) => first + (k : Int)

/-- A function on every component of a colour. -/
def mapRgba {α β : Type} (f : α → β) (c : Rgba α) : Rgba β := { r := f c.r, g := f c.g, b := f c.b, a := f c.a }

/-- A function on every channel. -/
def mapRgb {α β : Type} (f : α → β) (c : Rgb α) : Rgb β := { r := f c.r, g := f c.g, b := f c.b }

/-- A function on every one of the eight quantities. -/
def mapAttr8 {α β : Type} (f : α → β) (c : Attr8 α) : Attr8 β :=
  { r := f c.r, g := f c.g, b := f c.b, a := f c.a, s := f c.s, t := f c.t, w := f c.w, z := f c.z }

/-- A function of two arguments on every one of the eight quantities. -/
def zipAttr8 {α β γ : Type} (f : α → β → γ) (c : Attr8 α) (d : Attr8 β) : Attr8 γ :=
  { r := f c.r d.r, g := f c.g d.g, b := f c.b d.b, a := f c.a d.a, s := f c.s d.s, t := f c.t d.t, w := f c.w d.w,
    z := f c.z d.z }

/-- Element `i` of a quadruple, `i` in 0 to 3. -/
def getQuad {α : Type} (q : Quad α) (i : Nat) : α := if i = 0 then q.q0 else if i = 1 then q.q1 else if i = 2 then q.q2 else q.q3

/-- Element `i` of a quadruple replaced, `i` in 0 to 3. -/
def setQuad {α : Type} (q : Quad α) (i : Nat) (v : α) : Quad α :=
  if i = 0 then { q with q0 := v } else if i = 1 then { q with q1 := v } else if i = 2 then { q with q2 := v }
  else { q with q3 := v }

end Sys2Proof.Machine
end

