-- ==== Sys2Proof/Config.lean ====
section
/-! DEFINITION. The configuration record: the parameters that 00_scope.md R7 leaves open, and the free values behind them. -/

namespace Sys2Proof

/-- Where a member of the lookup table bank comes from: the contents the spec gives as its default, or any other
contents (00_scope.md R8, 92_eei_decisions.md D26: `TABLES` is open). -/
inductive TableSource where
  /-- the default contents the spec states -/
  | default
  /-- contents of which nothing is known: the opaque constant of `Config` for that member -/
  | other
deriving DecidableEq, Repr

/-- The pseudo-random source `NOISE` (48_combiner_blender.md R507, 92_eei_decisions.md D31: open). -/
inductive NoiseSource where
  /-- the default linear congruential generator of R507 -/
  | default
  /-- an uninterpreted function of `noise_seed`, as R507 allows a model to take it -/
  | other
deriving DecidableEq, Repr

/-- The open parameters of 00_scope.md R7, as plain data. -/
structure Config where
  /-- base-2 logarithm of `MEM_SIZE`, which is a power of two (R7, 20_memory.md R81) -/
  memBits : Nat
  /-- `CMD_BATCH` in words above the 44 that 40_command_processor.md R173 (a) requires -/
  batchExtra : Nat
  /-- `HIDDEN_INIT`, the value of a hidden-bits entry nothing has written (20_memory.md R86) -/
  hiddenInit : BitVec 2
  /-- `NOISE` (R507) -/
  noise : NoiseSource
  /-- `NOISE.seed0`, the power-on value of `noise_seed` (10_state.md R40) -/
  noiseSeed0 : BitVec 32
  /-- `TABLES.rcp_point` and `TABLES.rcp_diff`, the reciprocal ROM (47_texture.md R413) -/
  rcp : TableSource
  /-- `TABLES.magic` (48_combiner_blender.md R505) -/
  magic : TableSource
  /-- `TABLES.bayer` (R505) -/
  bayer : TableSource
  /-- `TABLES.bldiv` (48_combiner_blender.md R513) -/
  bldiv : TableSource
  /-- `BLEND2_SLOT` is 1 (48_combiner_blender.md R517, 90_conflicts.md C10) -/
  blend2Memory : Bool
  /-- `LOAD_LOCKUP` is 1 (44_load_commands.md R296, R297) -/
  loadLockup : Bool
  /-- `COPY32_LOCKUP` is 1 (49_depth_coverage_framebuffer.md R585) -/
  copy32Lockup : Bool
deriving DecidableEq, Repr

/-- The defaults of 00_scope.md R7 and 92_eei_decisions.md (D7, D16, D19, D26, D28, D31, D40).
DESIGN CHOICE (log 3): of the two sizes the spec names for `MEM_SIZE`, D16's 0x800000. -/
def Config.default : Config :=
  { memBits := 23, batchExtra := 0x10000 - 44, hiddenInit := 3, noise := .default, noiseSeed0 := 1,
    rcp := .default, magic := .default, bayer := .default, bldiv := .default,
    blend2Memory := false, loadLockup := false, copy32Lockup := false }

/-- Free value: the next `noise_seed` of a source other than the default (R507). Log 6. -/
opaque Config.otherNoiseNext : BitVec 32 → BitVec 32

/-- Free value: what a draw returns, from the seed after it, of a source other than the default (R507). Log 6. -/
opaque Config.otherNoiseDraw : BitVec 32 → BitVec 15

/-- Free value: `TABLES.rcp_point` when it does not hold the default contents (R413). Log 8. -/
opaque Config.otherRcpPoint : Nat → BitVec 16

/-- Free value: `TABLES.rcp_diff` when it does not hold the default contents (R413). Log 8. -/
opaque Config.otherRcpDiff : Nat → BitVec 16

/-- Free value: `TABLES.magic` when it does not hold the default contents (R505). Log 8. -/
opaque Config.otherMagic : Nat → BitVec 3

/-- Free value: `TABLES.bayer` when it does not hold the default contents (R505). Log 8. -/
opaque Config.otherBayer : Nat → BitVec 3

/-- Free value: `TABLES.bldiv` when it does not hold the default contents (R513). Log 8. -/
opaque Config.otherBlDiv : Nat → BitVec 8

/-- Free value: what component or signal `k` of the working colours holds after a pixel that does not compute it, with
`noise_seed` at the second argument after the pixel's dither step (10_state.md R65, R66: the spec gives no value). Log 23. -/
opaque Config.uncomputed : Nat → BitVec 32 → BitVec 9

end Sys2Proof
end

