-- ==== Sys2Proof/Syntax.lean ====
section
/-! DEFINITION. The command set: one constructor of `Instr` per row of spec/opcode_table.json (30_encoding.md R123), with the
operands of its format (R133 to R153) as raw fields of the stated widths. -/

namespace Sys2Proof

/-- `mode.cycle_type`: one of {1-cycle, 2-cycle, copy, fill} (10_state.md R31). -/
inductive CycleType where
  | one
  | two
  | copy
  | fill
deriving DecidableEq, Repr

/-- `mode.z_mode` (10_state.md R31). -/
inductive ZMode where
  | opaqueSurface
  | interpenetrating
  | transparent
  | decal
deriving DecidableEq, Repr

/-- `mode.cvg_dest` (10_state.md R31). -/
inductive CvgDest where
  | clamp
  | wrap
  | zap
  | save
deriving DecidableEq, Repr

/-- The other-modes register, all its fields (10_state.md R31; format F_OTHERMODES, 30_encoding.md R137). -/
structure OtherModes where
  cycleType : CycleType
  perspTexEn : Bool
  detailTexEn : Bool
  sharpenTexEn : Bool
  texLodEn : Bool
  enTlut : Bool
  tlutType : Bool
  sampleType : Bool
  midTexel : Bool
  biLerp0 : Bool
  biLerp1 : Bool
  convertOne : Bool
  keyEn : Bool
  rgbDitherSel : BitVec 2
  alphaDitherSel : BitVec 2
  blendM1a0 : BitVec 2
  blendM1a1 : BitVec 2
  blendM1b0 : BitVec 2
  blendM1b1 : BitVec 2
  blendM2a0 : BitVec 2
  blendM2a1 : BitVec 2
  blendM2b0 : BitVec 2
  blendM2b1 : BitVec 2
  forceBlend : Bool
  alphaCvgSelect : Bool
  cvgTimesAlpha : Bool
  zMode : ZMode
  cvgDest : CvgDest
  colorOnCvg : Bool
  imageReadEn : Bool
  zUpdateEn : Bool
  zCompareEn : Bool
  antialiasEn : Bool
  zSourceSel : Bool
  ditherAlphaEn : Bool
  alphaCompareEn : Bool
deriving DecidableEq, Repr

/-- One cycle's set of combiner selectors (10_state.md R32). -/
structure CombineSet where
  subARgb : BitVec 4
  subBRgb : BitVec 4
  mulRgb : BitVec 5
  addRgb : BitVec 3
  subAA : BitVec 3
  subBA : BitVec 3
  mulA : BitVec 3
  addA : BitVec 3
deriving DecidableEq, Repr

/-- The combine register: the selectors of cycle 0 and of cycle 1 (10_state.md R32; F_COMBINE, 30_encoding.md R138). -/
structure Combine where
  c0 : CombineSet
  c1 : CombineSet
deriving DecidableEq, Repr

/-- Operands of format F_RECT (30_encoding.md R134), u10.2 each. -/
structure RectOps where
  xl : BitVec 12
  yl : BitVec 12
  xh : BitVec 12
  yh : BitVec 12
deriving DecidableEq, Repr

/-- Operands of format F_TEXRECT (30_encoding.md R135). -/
structure TexRectOps where
  rect : RectOps
  tile : BitVec 3
  s : BitVec 16
  t : BitVec 16
  dsdx : BitVec 16
  dtdy : BitVec 16
deriving DecidableEq, Repr

/-- Operands of format F_SCISSOR (30_encoding.md R136). -/
structure ScissorOps where
  xh : BitVec 12
  yh : BitVec 12
  field : Bool
  odd : Bool
  xl : BitVec 12
  yl : BitVec 12
deriving DecidableEq, Repr

/-- Operands of format F_KEYGB (30_encoding.md R139). -/
structure KeyGbOps where
  widthG : BitVec 12
  widthB : BitVec 12
  centerG : BitVec 8
  scaleG : BitVec 8
  centerB : BitVec 8
  scaleB : BitVec 8
deriving DecidableEq, Repr

/-- Operands of format F_KEYR (30_encoding.md R140). -/
structure KeyROps where
  widthR : BitVec 12
  centerR : BitVec 8
  scaleR : BitVec 8
deriving DecidableEq, Repr

/-- Operands of format F_CONVERT (30_encoding.md R141). -/
structure ConvertOps where
  k0 : BitVec 9
  k1 : BitVec 9
  k2 : BitVec 9
  k3 : BitVec 9
  k4 : BitVec 9
  k5 : BitVec 9
deriving DecidableEq, Repr

/-- Operands of format F_PRIMDEPTH (30_encoding.md R142). -/
structure PrimDepthOps where
  z : BitVec 15
  dz : BitVec 16
deriving DecidableEq, Repr

/-- Operands of format F_PRIMCOLOR (30_encoding.md R144). -/
structure PrimColorOps where
  minLevel : BitVec 5
  lodFrac : BitVec 8
  color : Rgba (BitVec 8)
deriving DecidableEq, Repr

/-- Operands of format F_IMAGE (30_encoding.md R145); `width` is the image width in pixels minus 1. -/
structure ImageOps where
  format : BitVec 3
  size : BitVec 2
  width : BitVec 10
  address : BitVec 24
deriving DecidableEq, Repr

/-- Operands of format F_TILE (30_encoding.md R147). -/
structure TileOps where
  format : BitVec 3
  size : BitVec 2
  line : BitVec 9
  tmem : BitVec 9
  tile : BitVec 3
  palette : BitVec 4
  ct : Bool
  mt : Bool
  maskT : BitVec 4
  shiftT : BitVec 4
  cs : Bool
  ms : Bool
  maskS : BitVec 4
  shiftS : BitVec 4
deriving DecidableEq, Repr

/-- Operands of formats F_TILESIZE and F_LOADBLOCK (30_encoding.md R148, R149); in F_LOADBLOCK `th` is `DXT`. -/
structure TileSizeOps where
  sl : BitVec 12
  tl : BitVec 12
  tile : BitVec 3
  sh : BitVec 12
  th : BitVec 12
deriving DecidableEq, Repr

/-- The header and edge coefficients of a triangle, format F_TRI (30_encoding.md R150). -/
structure TriEdges where
  flip : Bool
  level : BitVec 3
  tile : BitVec 3
  yl : BitVec 14
  ym : BitVec 14
  yh : BitVec 14
  xl : BitVec 32
  dxldy : BitVec 32
  xh : BitVec 32
  dxhdy : BitVec 32
  xm : BitVec 32
  dxmdy : BitVec 32
deriving DecidableEq, Repr

/-- The shade block: each attribute as its assembled 32-bit value (30_encoding.md R151). -/
structure ShadeBlock where
  base : Rgba (BitVec 32)
  dx : Rgba (BitVec 32)
  de : Rgba (BitVec 32)
  dy : Rgba (BitVec 32)
deriving DecidableEq, Repr

/-- The three texture quantities of one group of the texture block (30_encoding.md R152). -/
structure Stw where
  s : BitVec 32
  t : BitVec 32
  w : BitVec 32
deriving DecidableEq, Repr

/-- The texture block: each attribute as its assembled 32-bit value (30_encoding.md R152). -/
structure TexBlock where
  base : Stw
  dx : Stw
  de : Stw
  dy : Stw
deriving DecidableEq, Repr

/-- The depth block (30_encoding.md R153). -/
structure ZBlock where
  z : BitVec 32
  dzdx : BitVec 32
  dzde : BitVec 32
  dzdy : BitVec 32
deriving DecidableEq, Repr

/-- The command set (30_encoding.md R123), in opcode order. -/
inductive Instr where
  /-- NOP, opcode 0x00, format F_NONE (R175) -/
  | nop
  /-- RESERVED_01, opcode 0x01, format F_NONE (R176) -/
  | reserved01
  /-- RESERVED_02, opcode 0x02, format F_NONE (R176) -/
  | reserved02
  /-- RESERVED_03, opcode 0x03, format F_NONE (R176) -/
  | reserved03
  /-- RESERVED_04, opcode 0x04, format F_NONE (R176) -/
  | reserved04
  /-- RESERVED_05, opcode 0x05, format F_NONE (R176) -/
  | reserved05
  /-- RESERVED_06, opcode 0x06, format F_NONE (R176) -/
  | reserved06
  /-- RESERVED_07, opcode 0x07, format F_NONE (R176) -/
  | reserved07
  /-- TRI_FILL, opcode 0x08, format F_TRI (R325) -/
  | triFill (e : TriEdges)
  /-- TRI_FILL_Z, opcode 0x09, format F_TRI+Z (R326) -/
  | triFillZ (e : TriEdges) (z : ZBlock)
  /-- TRI_TEX, opcode 0x0A, format F_TRI+T (R327) -/
  | triTex (e : TriEdges) (x : TexBlock)
  /-- TRI_TEX_Z, opcode 0x0B, format F_TRI+T+Z (R328) -/
  | triTexZ (e : TriEdges) (x : TexBlock) (z : ZBlock)
  /-- TRI_SHADE, opcode 0x0C, format F_TRI+S (R329) -/
  | triShade (e : TriEdges) (c : ShadeBlock)
  /-- TRI_SHADE_Z, opcode 0x0D, format F_TRI+S+Z (R330) -/
  | triShadeZ (e : TriEdges) (c : ShadeBlock) (z : ZBlock)
  /-- TRI_SHADE_TEX, opcode 0x0E, format F_TRI+S+T (R331) -/
  | triShadeTex (e : TriEdges) (c : ShadeBlock) (x : TexBlock)
  /-- TRI_SHADE_TEX_Z, opcode 0x0F, format F_TRI+S+T+Z (R332) -/
  | triShadeTexZ (e : TriEdges) (c : ShadeBlock) (x : TexBlock) (z : ZBlock)
  /-- RESERVED_10, opcode 0x10, format F_NONE (R176) -/
  | reserved10
  /-- RESERVED_11, opcode 0x11, format F_NONE (R176) -/
  | reserved11
  /-- RESERVED_12, opcode 0x12, format F_NONE (R176) -/
  | reserved12
  /-- RESERVED_13, opcode 0x13, format F_NONE (R176) -/
  | reserved13
  /-- RESERVED_14, opcode 0x14, format F_NONE (R176) -/
  | reserved14
  /-- RESERVED_15, opcode 0x15, format F_NONE (R176) -/
  | reserved15
  /-- RESERVED_16, opcode 0x16, format F_NONE (R176) -/
  | reserved16
  /-- RESERVED_17, opcode 0x17, format F_NONE (R176) -/
  | reserved17
  /-- RESERVED_18, opcode 0x18, format F_NONE (R176) -/
  | reserved18
  /-- RESERVED_19, opcode 0x19, format F_NONE (R176) -/
  | reserved19
  /-- RESERVED_1A, opcode 0x1A, format F_NONE (R176) -/
  | reserved1a
  /-- RESERVED_1B, opcode 0x1B, format F_NONE (R176) -/
  | reserved1b
  /-- RESERVED_1C, opcode 0x1C, format F_NONE (R176) -/
  | reserved1c
  /-- RESERVED_1D, opcode 0x1D, format F_NONE (R176) -/
  | reserved1d
  /-- RESERVED_1E, opcode 0x1E, format F_NONE (R176) -/
  | reserved1e
  /-- RESERVED_1F, opcode 0x1F, format F_NONE (R176) -/
  | reserved1f
  /-- RESERVED_20, opcode 0x20, format F_NONE (R176) -/
  | reserved20
  /-- RESERVED_21, opcode 0x21, format F_NONE (R176) -/
  | reserved21
  /-- RESERVED_22, opcode 0x22, format F_NONE (R176) -/
  | reserved22
  /-- RESERVED_23, opcode 0x23, format F_NONE (R176) -/
  | reserved23
  /-- TEXTURE_RECTANGLE, opcode 0x24, format F_TEXRECT (R335) -/
  | textureRectangle (o : TexRectOps)
  /-- TEXTURE_RECTANGLE_FLIP, opcode 0x25, format F_TEXRECT (R336) -/
  | textureRectangleFlip (o : TexRectOps)
  /-- SYNC_LOAD, opcode 0x26, format F_NONE (R201) -/
  | syncLoad
  /-- SYNC_PIPE, opcode 0x27, format F_NONE (R202) -/
  | syncPipe
  /-- SYNC_TILE, opcode 0x28, format F_NONE (R203) -/
  | syncTile
  /-- SYNC_FULL, opcode 0x29, format F_NONE (R204) -/
  | syncFull
  /-- SET_KEY_GB, opcode 0x2A, format F_KEYGB (R235) -/
  | setKeyGb (o : KeyGbOps)
  /-- SET_KEY_R, opcode 0x2B, format F_KEYR (R236) -/
  | setKeyR (o : KeyROps)
  /-- SET_CONVERT, opcode 0x2C, format F_CONVERT (R238) -/
  | setConvert (o : ConvertOps)
  /-- SET_SCISSOR, opcode 0x2D, format F_SCISSOR (R228) -/
  | setScissor (o : ScissorOps)
  /-- SET_PRIM_DEPTH, opcode 0x2E, format F_PRIMDEPTH (R231) -/
  | setPrimDepth (o : PrimDepthOps)
  /-- SET_OTHER_MODES, opcode 0x2F, format F_OTHERMODES (R221) -/
  | setOtherModes (m : OtherModes)
  /-- LOAD_TLUT, opcode 0x30, format F_TILESIZE (R296) -/
  | loadTlut (o : TileSizeOps)
  /-- RESERVED_31, opcode 0x31, format F_NONE (R176) -/
  | reserved31
  /-- SET_TILE_SIZE, opcode 0x32, format F_TILESIZE (R270) -/
  | setTileSize (o : TileSizeOps)
  /-- LOAD_BLOCK, opcode 0x33, format F_LOADBLOCK (R294) -/
  | loadBlock (o : TileSizeOps)
  /-- LOAD_TILE, opcode 0x34, format F_TILESIZE (R292) -/
  | loadTile (o : TileSizeOps)
  /-- SET_TILE, opcode 0x35, format F_TILE (R267) -/
  | setTile (o : TileOps)
  /-- FILL_RECTANGLE, opcode 0x36, format F_RECT (R338) -/
  | fillRectangle (o : RectOps)
  /-- SET_FILL_COLOR, opcode 0x37, format F_COLOR (R241) -/
  | setFillColor (color : BitVec 32)
  /-- SET_FOG_COLOR, opcode 0x38, format F_COLOR (R242) -/
  | setFogColor (color : Rgba (BitVec 8))
  /-- SET_BLEND_COLOR, opcode 0x39, format F_COLOR (R243) -/
  | setBlendColor (color : Rgba (BitVec 8))
  /-- SET_PRIM_COLOR, opcode 0x3A, format F_PRIMCOLOR (R244) -/
  | setPrimColor (o : PrimColorOps)
  /-- SET_ENV_COLOR, opcode 0x3B, format F_COLOR (R245) -/
  | setEnvColor (color : Rgba (BitVec 8))
  /-- SET_COMBINE, opcode 0x3C, format F_COMBINE (R225) -/
  | setCombine (c : Combine)
  /-- SET_TEXTURE_IMAGE, opcode 0x3D, format F_IMAGE (R262) -/
  | setTextureImage (o : ImageOps)
  /-- SET_Z_IMAGE, opcode 0x3E, format F_ZIMAGE (R264) -/
  | setZImage (address : BitVec 24)
  /-- SET_COLOR_IMAGE, opcode 0x3F, format F_IMAGE (R261) -/
  | setColorImage (o : ImageOps)
deriving DecidableEq, Repr

end Sys2Proof
end

