-- ==== Sys2Proof/WellFormed.lean ====
section
/-! DEFINITION. Which instruction terms are well formed. -/

namespace Sys2Proof

/-- Every operand field is a bit vector of exactly the width its format gives it, and the spec accepts every value of every
field (42_mode_commands.md R220, 43_image_tile_commands.md R260, 45_primitive_commands.md R320, 44_load_commands.md R290), so
no term of `Instr` is ill formed: there is no check to make. One arm per constructor, so that a constructor added later has to
be considered here. -/
def Instr.wellFormed (i : Instr) : Bool :=
  match i with
  | .nop => true
  | .reserved01 => true
  | .reserved02 => true
  | .reserved03 => true
  | .reserved04 => true
  | .reserved05 => true
  | .reserved06 => true
  | .reserved07 => true
  | .triFill _ => true
  | .triFillZ _ _ => true
  | .triTex _ _ => true
  | .triTexZ _ _ _ => true
  | .triShade _ _ => true
  | .triShadeZ _ _ _ => true
  | .triShadeTex _ _ _ => true
  | .triShadeTexZ _ _ _ _ => true
  | .reserved10 => true
  | .reserved11 => true
  | .reserved12 => true
  | .reserved13 => true
  | .reserved14 => true
  | .reserved15 => true
  | .reserved16 => true
  | .reserved17 => true
  | .reserved18 => true
  | .reserved19 => true
  | .reserved1a => true
  | .reserved1b => true
  | .reserved1c => true
  | .reserved1d => true
  | .reserved1e => true
  | .reserved1f => true
  | .reserved20 => true
  | .reserved21 => true
  | .reserved22 => true
  | .reserved23 => true
  | .textureRectangle _ => true
  | .textureRectangleFlip _ => true
  | .syncLoad => true
  | .syncPipe => true
  | .syncTile => true
  | .syncFull => true
  | .setKeyGb _ => true
  | .setKeyR _ => true
  | .setConvert _ => true
  | .setScissor _ => true
  | .setPrimDepth _ => true
  | .setOtherModes _ => true
  | .loadTlut _ => true
  | .reserved31 => true
  | .setTileSize _ => true
  | .loadBlock _ => true
  | .loadTile _ => true
  | .setTile _ => true
  | .fillRectangle _ => true
  | .setFillColor _ => true
  | .setFogColor _ => true
  | .setBlendColor _ => true
  | .setPrimColor _ => true
  | .setEnvColor _ => true
  | .setCombine _ => true
  | .setTextureImage _ => true
  | .setZImage _ => true
  | .setColorImage _ => true

end Sys2Proof
end

