-- ==== Sys2Proof/Decode.lean ====
section
/-! DEFINITION. Decoding the command stream (30_encoding.md R120 to R153) and, after it, encoding (R156). -/

namespace Sys2Proof

/-- The field of `w` of `n` bits whose lowest bit is bit `lo` (00_scope.md R9). -/
def fieldOf (w : Word) (lo n : Nat) : BitVec n := w.extractLsb' lo n

/-- Bit `i` of `w` as a truth value. -/
def flagOf (w : Word) (i : Nat) : Bool := w.getLsbD i

/-- The opcode, `w0[29:24]`; bits 31 and 30 are ignored (30_encoding.md R121, 90_conflicts.md C1). -/
def opcodeOf (w0 : Word) : BitVec 6 := fieldOf w0 24 6

/-- The length table `LEN` in 32-bit words (30_encoding.md R122). -/
def cmdLen (op : BitVec 6) : Nat :=
  match op.toNat with
  | 0x08 => 8
  | 0x09 => 12
  | 0x0A => 24
  | 0x0B => 28
  | 0x0C => 24
  | 0x0D => 28
  | 0x0E => 40
  | 0x0F => 44
  | 0x24 => 4
  | 0x25 => 4
  | _ => 2

/-- The 32-bit big-endian words a byte sequence holds, the first byte the most significant (20_memory.md R89). Up to three
bytes left over form no word. -/
def wordsOfBytes : List Byte → List Word
  | a :: b :: c :: d :: rest => (a ++ b ++ c ++ d) :: wordsOfBytes rest
  | _ => []

/-- The four bytes of a word, most significant first (20_memory.md R89). -/
def bytesOfWord (w : Word) : List Byte := [fieldOf w 24 8, fieldOf w 16 8, fieldOf w 8 8, fieldOf w 0 8]

/-- `cycle_type` codes (10_state.md R31). -/
def cycleTypeOfBits (b : BitVec 2) : CycleType :=
  match b.toNat with
  | 0 => .one
  | 1 => .two
  | 2 => .copy
  | _ => .fill

/-- `z_mode` codes (10_state.md R31). -/
def zModeOfBits (b : BitVec 2) : ZMode :=
  match b.toNat with
  | 0 => .opaqueSurface
  | 1 => .interpenetrating
  | 2 => .transparent
  | _ => .decal

/-- `cvg_dest` codes (10_state.md R31). -/
def cvgDestOfBits (b : BitVec 2) : CvgDest :=
  match b.toNat with
  | 0 => .clamp
  | 1 => .wrap
  | 2 => .zap
  | _ => .save

/-- First of a pair: the two upper halves assembled (30_encoding.md R151). -/
def hiOf (int frac : Word) : Word := fieldOf int 16 16 ++ fieldOf frac 16 16

/-- Second of a pair: the two lower halves assembled (30_encoding.md R151). -/
def loOf (int frac : Word) : Word := fieldOf int 0 16 ++ fieldOf frac 0 16

/-- The header and edge coefficients (30_encoding.md R150). -/
def decodeEdges (w : Nat → Word) : TriEdges :=
  { flip := flagOf (w 0) 23, level := fieldOf (w 0) 19 3, tile := fieldOf (w 0) 16 3, yl := fieldOf (w 0) 0 14,
    ym := fieldOf (w 1) 16 14, yh := fieldOf (w 1) 0 14, xl := w 2, dxldy := w 3, xh := w 4, dxhdy := w 5, xm := w 6,
    dxmdy := w 7 }

/-- Four colour quantities whose integer halves start at word `i` and fraction halves at word `f` (30_encoding.md R151). -/
def decodeRgbaGroup (w : Nat → Word) (i f : Nat) : Rgba Word :=
  { r := hiOf (w i) (w f), g := loOf (w i) (w f), b := hiOf (w (i + 1)) (w (f + 1)), a := loOf (w (i + 1)) (w (f + 1)) }

/-- The shade block from word `k` on (30_encoding.md R151). -/
def decodeShade (w : Nat → Word) (k : Nat) : ShadeBlock :=
  { base := decodeRgbaGroup w k (k + 4), dx := decodeRgbaGroup w (k + 2) (k + 6), de := decodeRgbaGroup w (k + 8) (k + 12),
    dy := decodeRgbaGroup w (k + 10) (k + 14) }

/-- Three texture quantities whose integer halves start at word `i` and fraction halves at word `f` (30_encoding.md R152). -/
def decodeStwGroup (w : Nat → Word) (i f : Nat) : Stw :=
  { s := hiOf (w i) (w f), t := loOf (w i) (w f), w := hiOf (w (i + 1)) (w (f + 1)) }

/-- The texture block from word `k` on (30_encoding.md R152). -/
def decodeTex (w : Nat → Word) (k : Nat) : TexBlock :=
  { base := decodeStwGroup w k (k + 4), dx := decodeStwGroup w (k + 2) (k + 6), de := decodeStwGroup w (k + 8) (k + 12),
    dy := decodeStwGroup w (k + 10) (k + 14) }

/-- The depth block from word `k` on (30_encoding.md R153). -/
def decodeZ (w : Nat → Word) (k : Nat) : ZBlock := { z := w k, dzdx := w (k + 1), dzde := w (k + 2), dzdy := w (k + 3) }

/-- Format F_RECT (30_encoding.md R134). -/
def decodeRect (w : Nat → Word) : RectOps :=
  { xl := fieldOf (w 0) 12 12, yl := fieldOf (w 0) 0 12, xh := fieldOf (w 1) 12 12, yh := fieldOf (w 1) 0 12 }

/-- Format F_TEXRECT (30_encoding.md R135). -/
def decodeTexRect (w : Nat → Word) : TexRectOps :=
  { rect := decodeRect w, tile := fieldOf (w 1) 24 3, s := fieldOf (w 2) 16 16, t := fieldOf (w 2) 0 16,
    dsdx := fieldOf (w 3) 16 16, dtdy := fieldOf (w 3) 0 16 }

/-- Format F_SCISSOR (30_encoding.md R136). -/
def decodeScissor (w : Nat → Word) : ScissorOps :=
  { xh := fieldOf (w 0) 12 12, yh := fieldOf (w 0) 0 12, field := flagOf (w 1) 25, odd := flagOf (w 1) 24,
    xl := fieldOf (w 1) 12 12, yl := fieldOf (w 1) 0 12 }

/-- Format F_OTHERMODES (30_encoding.md R137, 42_mode_commands.md R221). -/
def decodeOtherModes (w : Nat → Word) : OtherModes :=
  { cycleType := cycleTypeOfBits (fieldOf (w 0) 20 2), perspTexEn := flagOf (w 0) 19, detailTexEn := flagOf (w 0) 18,
    sharpenTexEn := flagOf (w 0) 17, texLodEn := flagOf (w 0) 16, enTlut := flagOf (w 0) 15, tlutType := flagOf (w 0) 14,
    sampleType := flagOf (w 0) 13, midTexel := flagOf (w 0) 12, biLerp0 := flagOf (w 0) 11, biLerp1 := flagOf (w 0) 10,
    convertOne := flagOf (w 0) 9, keyEn := flagOf (w 0) 8, rgbDitherSel := fieldOf (w 0) 6 2,
    alphaDitherSel := fieldOf (w 0) 4 2, blendM1a0 := fieldOf (w 1) 30 2, blendM1a1 := fieldOf (w 1) 28 2,
    blendM1b0 := fieldOf (w 1) 26 2, blendM1b1 := fieldOf (w 1) 24 2, blendM2a0 := fieldOf (w 1) 22 2,
    blendM2a1 := fieldOf (w 1) 20 2, blendM2b0 := fieldOf (w 1) 18 2, blendM2b1 := fieldOf (w 1) 16 2,
    forceBlend := flagOf (w 1) 14, alphaCvgSelect := flagOf (w 1) 13, cvgTimesAlpha := flagOf (w 1) 12,
    zMode := zModeOfBits (fieldOf (w 1) 10 2), cvgDest := cvgDestOfBits (fieldOf (w 1) 8 2), colorOnCvg := flagOf (w 1) 7,
    imageReadEn := flagOf (w 1) 6, zUpdateEn := flagOf (w 1) 5, zCompareEn := flagOf (w 1) 4, antialiasEn := flagOf (w 1) 3,
    zSourceSel := flagOf (w 1) 2, ditherAlphaEn := flagOf (w 1) 1, alphaCompareEn := flagOf (w 1) 0 }

/-- Format F_COMBINE (30_encoding.md R138, 42_mode_commands.md R225). -/
def decodeCombine (w : Nat → Word) : Combine :=
  { c0 := { subARgb := fieldOf (w 0) 20 4, subBRgb := fieldOf (w 1) 28 4, mulRgb := fieldOf (w 0) 15 5,
            addRgb := fieldOf (w 1) 15 3, subAA := fieldOf (w 0) 12 3, subBA := fieldOf (w 1) 12 3,
            mulA := fieldOf (w 0) 9 3, addA := fieldOf (w 1) 9 3 },
    c1 := { subARgb := fieldOf (w 0) 5 4, subBRgb := fieldOf (w 1) 24 4, mulRgb := fieldOf (w 0) 0 5,
            addRgb := fieldOf (w 1) 6 3, subAA := fieldOf (w 1) 21 3, subBA := fieldOf (w 1) 3 3,
            mulA := fieldOf (w 1) 18 3, addA := fieldOf (w 1) 0 3 } }

/-- Format F_KEYGB (30_encoding.md R139). -/
def decodeKeyGb (w : Nat → Word) : KeyGbOps :=
  { widthG := fieldOf (w 0) 12 12, widthB := fieldOf (w 0) 0 12, centerG := fieldOf (w 1) 24 8, scaleG := fieldOf (w 1) 16 8,
    centerB := fieldOf (w 1) 8 8, scaleB := fieldOf (w 1) 0 8 }

/-- Format F_KEYR (30_encoding.md R140). -/
def decodeKeyR (w : Nat → Word) : KeyROps :=
  { widthR := fieldOf (w 1) 16 12, centerR := fieldOf (w 1) 8 8, scaleR := fieldOf (w 1) 0 8 }

/-- Format F_CONVERT (30_encoding.md R141); `K2` is split across the two words. -/
def decodeConvert (w : Nat → Word) : ConvertOps :=
  { k0 := fieldOf (w 0) 13 9, k1 := fieldOf (w 0) 4 9, k2 := fieldOf (w 0) 0 4 ++ fieldOf (w 1) 27 5,
    k3 := fieldOf (w 1) 18 9, k4 := fieldOf (w 1) 9 9, k5 := fieldOf (w 1) 0 9 }

/-- Format F_PRIMDEPTH (30_encoding.md R142). -/
def decodePrimDepth (w : Nat → Word) : PrimDepthOps := { z := fieldOf (w 1) 16 15, dz := fieldOf (w 1) 0 16 }

/-- The four components of format F_COLOR in the second word (30_encoding.md R143). -/
def decodeColor (w : Nat → Word) : Rgba (BitVec 8) :=
  { r := fieldOf (w 1) 24 8, g := fieldOf (w 1) 16 8, b := fieldOf (w 1) 8 8, a := fieldOf (w 1) 0 8 }

/-- Format F_PRIMCOLOR (30_encoding.md R144). -/
def decodePrimColor (w : Nat → Word) : PrimColorOps :=
  { minLevel := fieldOf (w 0) 8 5, lodFrac := fieldOf (w 0) 0 8, color := decodeColor w }

/-- Format F_IMAGE (30_encoding.md R145). -/
def decodeImage (w : Nat → Word) : ImageOps :=
  { format := fieldOf (w 0) 21 3, size := fieldOf (w 0) 19 2, width := fieldOf (w 0) 0 10, address := fieldOf (w 1) 0 24 }

/-- Format F_TILE (30_encoding.md R147). -/
def decodeTile (w : Nat → Word) : TileOps :=
  { format := fieldOf (w 0) 21 3, size := fieldOf (w 0) 19 2, line := fieldOf (w 0) 9 9, tmem := fieldOf (w 0) 0 9,
    tile := fieldOf (w 1) 24 3, palette := fieldOf (w 1) 20 4, ct := flagOf (w 1) 19, mt := flagOf (w 1) 18,
    maskT := fieldOf (w 1) 14 4, shiftT := fieldOf (w 1) 10 4, cs := flagOf (w 1) 9, ms := flagOf (w 1) 8,
    maskS := fieldOf (w 1) 4 4, shiftS := fieldOf (w 1) 0 4 }

/-- Formats F_TILESIZE and F_LOADBLOCK (30_encoding.md R148, R149). -/
def decodeTileSize (w : Nat → Word) : TileSizeOps :=
  { sl := fieldOf (w 0) 12 12, tl := fieldOf (w 0) 0 12, tile := fieldOf (w 1) 24 3, sh := fieldOf (w 1) 12 12,
    th := fieldOf (w 1) 0 12 }

/-- The instruction of opcode `op` whose words are `w 0, w 1, …` (30_encoding.md R123). Every 6-bit opcode has an arm; the
last line is there because the match is on a natural number (Laws: `decodeOp` never answers none). -/
def decodeOp (op : BitVec 6) (w : Nat → Word) : Option Instr :=
  match op.toNat with
  | 0x00 => some .nop
  | 0x01 => some .reserved01
  | 0x02 => some .reserved02
  | 0x03 => some .reserved03
  | 0x04 => some .reserved04
  | 0x05 => some .reserved05
  | 0x06 => some .reserved06
  | 0x07 => some .reserved07
  | 0x08 => some (.triFill (decodeEdges w))
  | 0x09 => some (.triFillZ (decodeEdges w) (decodeZ w 8))
  | 0x0A => some (.triTex (decodeEdges w) (decodeTex w 8))
  | 0x0B => some (.triTexZ (decodeEdges w) (decodeTex w 8) (decodeZ w 24))
  | 0x0C => some (.triShade (decodeEdges w) (decodeShade w 8))
  | 0x0D => some (.triShadeZ (decodeEdges w) (decodeShade w 8) (decodeZ w 24))
  | 0x0E => some (.triShadeTex (decodeEdges w) (decodeShade w 8) (decodeTex w 24))
  | 0x0F => some (.triShadeTexZ (decodeEdges w) (decodeShade w 8) (decodeTex w 24) (decodeZ w 40))
  | 0x10 => some .reserved10
  | 0x11 => some .reserved11
  | 0x12 => some .reserved12
  | 0x13 => some .reserved13
  | 0x14 => some .reserved14
  | 0x15 => some .reserved15
  | 0x16 => some .reserved16
  | 0x17 => some .reserved17
  | 0x18 => some .reserved18
  | 0x19 => some .reserved19
  | 0x1A => some .reserved1a
  | 0x1B => some .reserved1b
  | 0x1C => some .reserved1c
  | 0x1D => some .reserved1d
  | 0x1E => some .reserved1e
  | 0x1F => some .reserved1f
  | 0x20 => some .reserved20
  | 0x21 => some .reserved21
  | 0x22 => some .reserved22
  | 0x23 => some .reserved23
  | 0x24 => some (.textureRectangle (decodeTexRect w))
  | 0x25 => some (.textureRectangleFlip (decodeTexRect w))
  | 0x26 => some .syncLoad
  | 0x27 => some .syncPipe
  | 0x28 => some .syncTile
  | 0x29 => some .syncFull
  | 0x2A => some (.setKeyGb (decodeKeyGb w))
  | 0x2B => some (.setKeyR (decodeKeyR w))
  | 0x2C => some (.setConvert (decodeConvert w))
  | 0x2D => some (.setScissor (decodeScissor w))
  | 0x2E => some (.setPrimDepth (decodePrimDepth w))
  | 0x2F => some (.setOtherModes (decodeOtherModes w))
  | 0x30 => some (.loadTlut (decodeTileSize w))
  | 0x31 => some .reserved31
  | 0x32 => some (.setTileSize (decodeTileSize w))
  | 0x33 => some (.loadBlock (decodeTileSize w))
  | 0x34 => some (.loadTile (decodeTileSize w))
  | 0x35 => some (.setTile (decodeTile w))
  | 0x36 => some (.fillRectangle (decodeRect w))
  | 0x37 => some (.setFillColor (w 1))
  | 0x38 => some (.setFogColor (decodeColor w))
  | 0x39 => some (.setBlendColor (decodeColor w))
  | 0x3A => some (.setPrimColor (decodePrimColor w))
  | 0x3B => some (.setEnvColor (decodeColor w))
  | 0x3C => some (.setCombine (decodeCombine w))
  | 0x3D => some (.setTextureImage (decodeImage w))
  | 0x3E => some (.setZImage (fieldOf (w 1) 0 24))
  | 0x3F => some (.setColorImage (decodeImage w))
  | _ => none

/-- Why a word sequence gives no instruction. -/
inductive DecodeError where
  /-- the sequence ends inside the command: the stall of 40_command_processor.md R168 -/
  | truncated
  /-- no arm for the opcode: cannot happen (Laws) -/
  | undecodable
deriving DecidableEq, Repr

/-- Decodes the command at the head of a word sequence and returns the words after it (30_encoding.md R120,
40_command_processor.md R163, R167: only a whole command is decoded). -/
def decodeWords (ws : List Word) : Except DecodeError (Instr × List Word) :=
  let op := opcodeOf (ws.getD 0 0)
  if ws.length < cmdLen op then .error .truncated
  else
    match decodeOp op (fun k => ws.getD k 0) with
    | some i => .ok (i, ws.drop (cmdLen op))
    | none => .error .undecodable

/-- Decodes the command at the head of a byte sequence and returns the bytes after it; total on any bytes. -/
def decode (bs : List Byte) : Except DecodeError (Instr × List Byte) :=
  let ws := wordsOfBytes bs
  match decodeWords ws with
  | .ok (i, _) => .ok (i, bs.drop (4 * cmdLen (opcodeOf (ws.getD 0 0))))
  | .error e => .error e

/-! ## Encoding (30_encoding.md R156) -/

/-- The opcode of an instruction (30_encoding.md R123). -/
def Instr.op (i : Instr) : BitVec 6 :=
  match i with
  | .nop => 0x00
  | .reserved01 => 0x01
  | .reserved02 => 0x02
  | .reserved03 => 0x03
  | .reserved04 => 0x04
  | .reserved05 => 0x05
  | .reserved06 => 0x06
  | .reserved07 => 0x07
  | .triFill _ => 0x08
  | .triFillZ _ _ => 0x09
  | .triTex _ _ => 0x0A
  | .triTexZ _ _ _ => 0x0B
  | .triShade _ _ => 0x0C
  | .triShadeZ _ _ _ => 0x0D
  | .triShadeTex _ _ _ => 0x0E
  | .triShadeTexZ _ _ _ _ => 0x0F
  | .reserved10 => 0x10
  | .reserved11 => 0x11
  | .reserved12 => 0x12
  | .reserved13 => 0x13
  | .reserved14 => 0x14
  | .reserved15 => 0x15
  | .reserved16 => 0x16
  | .reserved17 => 0x17
  | .reserved18 => 0x18
  | .reserved19 => 0x19
  | .reserved1a => 0x1A
  | .reserved1b => 0x1B
  | .reserved1c => 0x1C
  | .reserved1d => 0x1D
  | .reserved1e => 0x1E
  | .reserved1f => 0x1F
  | .reserved20 => 0x20
  | .reserved21 => 0x21
  | .reserved22 => 0x22
  | .reserved23 => 0x23
  | .textureRectangle _ => 0x24
  | .textureRectangleFlip _ => 0x25
  | .syncLoad => 0x26
  | .syncPipe => 0x27
  | .syncTile => 0x28
  | .syncFull => 0x29
  | .setKeyGb _ => 0x2A
  | .setKeyR _ => 0x2B
  | .setConvert _ => 0x2C
  | .setScissor _ => 0x2D
  | .setPrimDepth _ => 0x2E
  | .setOtherModes _ => 0x2F
  | .loadTlut _ => 0x30
  | .reserved31 => 0x31
  | .setTileSize _ => 0x32
  | .loadBlock _ => 0x33
  | .loadTile _ => 0x34
  | .setTile _ => 0x35
  | .fillRectangle _ => 0x36
  | .setFillColor _ => 0x37
  | .setFogColor _ => 0x38
  | .setBlendColor _ => 0x39
  | .setPrimColor _ => 0x3A
  | .setEnvColor _ => 0x3B
  | .setCombine _ => 0x3C
  | .setTextureImage _ => 0x3D
  | .setZImage _ => 0x3E
  | .setColorImage _ => 0x3F

/-- A truth value as one bit. -/
def bitOf (b : Bool) : BitVec 1 := BitVec.ofBool b

/-- Codes of `cycle_type`. -/
def cycleTypeBits (c : CycleType) : BitVec 2 :=
  match c with
  | .one => 0
  | .two => 1
  | .copy => 2
  | .fill => 3

/-- Codes of `z_mode`. -/
def zModeBits (m : ZMode) : BitVec 2 :=
  match m with
  | .opaqueSurface => 0
  | .interpenetrating => 1
  | .transparent => 2
  | .decal => 3

/-- Codes of `cvg_dest`. -/
def cvgDestBits (d : CvgDest) : BitVec 2 :=
  match d with
  | .clamp => 0
  | .wrap => 1
  | .zap => 2
  | .save => 3

/-- The first word: two zero bits, the opcode, the 24 operand bits. -/
def headWord (op : BitVec 6) (rest : BitVec 24) : Word := 0#2 ++ op ++ rest

/-- The integer halves of two quantities in one word (30_encoding.md R151). -/
def intPair (p q : Word) : Word := fieldOf p 16 16 ++ fieldOf q 16 16

/-- The fraction halves of two quantities in one word (30_encoding.md R151). -/
def fracPair (p q : Word) : Word := fieldOf p 0 16 ++ fieldOf q 0 16

/-- The eight header and edge words of a triangle (30_encoding.md R150). -/
def edgeWords (op : BitVec 6) (e : TriEdges) : List Word :=
  [headWord op (bitOf e.flip ++ 0#1 ++ e.level ++ e.tile ++ 0#2 ++ e.yl), 0#2 ++ e.ym ++ 0#2 ++ e.yh,
   e.xl, e.dxldy, e.xh, e.dxhdy, e.xm, e.dxmdy]

/-- Eight words of two colour groups: integer halves, then fraction halves (30_encoding.md R151). -/
def rgbaWords (p q : Rgba Word) : List Word :=
  [intPair p.r p.g, intPair p.b p.a, intPair q.r q.g, intPair q.b q.a,
   fracPair p.r p.g, fracPair p.b p.a, fracPair q.r q.g, fracPair q.b q.a]

/-- The sixteen words of the shade block (30_encoding.md R151). -/
def shadeWords (c : ShadeBlock) : List Word := rgbaWords c.base c.dx ++ rgbaWords c.de c.dy

/-- Eight words of two texture groups (30_encoding.md R152); the ignored halves are 0. -/
def stwWords (p q : Stw) : List Word :=
  [intPair p.s p.t, intPair p.w 0, intPair q.s q.t, intPair q.w 0,
   fracPair p.s p.t, fracPair p.w 0, fracPair q.s q.t, fracPair q.w 0]

/-- The sixteen words of the texture block (30_encoding.md R152). -/
def texWords (x : TexBlock) : List Word := stwWords x.base x.dx ++ stwWords x.de x.dy

/-- The four words of the depth block (30_encoding.md R153). -/
def zWords (z : ZBlock) : List Word := [z.z, z.dzdx, z.dzde, z.dzdy]

/-- A colour as one word (30_encoding.md R143). -/
def colorWord (c : Rgba (BitVec 8)) : Word := c.r ++ c.g ++ c.b ++ c.a

/-- Format F_RECT with a tile field of zero or, for F_TEXRECT, the tile (30_encoding.md R134, R135). -/
def rectWords (op : BitVec 6) (o : RectOps) (tile : BitVec 3) : List Word :=
  [headWord op (o.xl ++ o.yl), 0#5 ++ tile ++ o.xh ++ o.yh]

/-- Format F_TEXRECT (30_encoding.md R135). -/
def texRectWords (op : BitVec 6) (o : TexRectOps) : List Word :=
  rectWords op o.rect o.tile ++ [o.s ++ o.t, o.dsdx ++ o.dtdy]

/-- Format F_OTHERMODES (30_encoding.md R137). -/
def otherModesWords (op : BitVec 6) (m : OtherModes) : List Word :=
  [headWord op
     (0#2 ++ cycleTypeBits m.cycleType ++ bitOf m.perspTexEn ++ bitOf m.detailTexEn ++ bitOf m.sharpenTexEn ++
      bitOf m.texLodEn ++ bitOf m.enTlut ++ bitOf m.tlutType ++ bitOf m.sampleType ++ bitOf m.midTexel ++ bitOf m.biLerp0 ++
      bitOf m.biLerp1 ++ bitOf m.convertOne ++ bitOf m.keyEn ++ m.rgbDitherSel ++ m.alphaDitherSel ++ 0#4),
   m.blendM1a0 ++ m.blendM1a1 ++ m.blendM1b0 ++ m.blendM1b1 ++ m.blendM2a0 ++ m.blendM2a1 ++ m.blendM2b0 ++ m.blendM2b1 ++
     0#1 ++ bitOf m.forceBlend ++ bitOf m.alphaCvgSelect ++ bitOf m.cvgTimesAlpha ++ zModeBits m.zMode ++
     cvgDestBits m.cvgDest ++ bitOf m.colorOnCvg ++ bitOf m.imageReadEn ++ bitOf m.zUpdateEn ++ bitOf m.zCompareEn ++
     bitOf m.antialiasEn ++ bitOf m.zSourceSel ++ bitOf m.ditherAlphaEn ++ bitOf m.alphaCompareEn]

/-- Format F_COMBINE (30_encoding.md R138). -/
def combineWords (op : BitVec 6) (c : Combine) : List Word :=
  [headWord op (c.c0.subARgb ++ c.c0.mulRgb ++ c.c0.subAA ++ c.c0.mulA ++ c.c1.subARgb ++ c.c1.mulRgb),
   c.c0.subBRgb ++ c.c1.subBRgb ++ c.c1.subAA ++ c.c1.mulA ++ c.c0.addRgb ++ c.c0.subBA ++ c.c0.addA ++ c.c1.addRgb ++
     c.c1.subBA ++ c.c1.addA]

/-- Format F_IMAGE (30_encoding.md R145). -/
def imageWords (op : BitVec 6) (o : ImageOps) : List Word :=
  [headWord op (o.format ++ o.size ++ 0#9 ++ o.width), 0#8 ++ o.address]

/-- Format F_TILE (30_encoding.md R147). -/
def tileWords (op : BitVec 6) (o : TileOps) : List Word :=
  [headWord op (o.format ++ o.size ++ 0#1 ++ o.line ++ o.tmem),
   0#5 ++ o.tile ++ o.palette ++ bitOf o.ct ++ bitOf o.mt ++ o.maskT ++ o.shiftT ++ bitOf o.cs ++ bitOf o.ms ++ o.maskS ++
     o.shiftS]

/-- Formats F_TILESIZE and F_LOADBLOCK (30_encoding.md R148, R149). -/
def tileSizeWords (op : BitVec 6) (o : TileSizeOps) : List Word :=
  [headWord op (o.sl ++ o.tl), 0#5 ++ o.tile ++ o.sh ++ o.th]

/-- The words of an instruction: opcode and fields in place, unnamed bits 0 (30_encoding.md R156). -/
def encode (i : Instr) : List Word :=
  match i with
  | .nop => [headWord 0x00 0, 0]
  | .reserved01 => [headWord 0x01 0, 0]
  | .reserved02 => [headWord 0x02 0, 0]
  | .reserved03 => [headWord 0x03 0, 0]
  | .reserved04 => [headWord 0x04 0, 0]
  | .reserved05 => [headWord 0x05 0, 0]
  | .reserved06 => [headWord 0x06 0, 0]
  | .reserved07 => [headWord 0x07 0, 0]
  | .triFill e => edgeWords 0x08 e
  | .triFillZ e z => edgeWords 0x09 e ++ zWords z
  | .triTex e x => edgeWords 0x0A e ++ texWords x
  | .triTexZ e x z => edgeWords 0x0B e ++ texWords x ++ zWords z
  | .triShade e c => edgeWords 0x0C e ++ shadeWords c
  | .triShadeZ e c z => edgeWords 0x0D e ++ shadeWords c ++ zWords z
  | .triShadeTex e c x => edgeWords 0x0E e ++ shadeWords c ++ texWords x
  | .triShadeTexZ e c x z => edgeWords 0x0F e ++ shadeWords c ++ texWords x ++ zWords z
  | .reserved10 => [headWord 0x10 0, 0]
  | .reserved11 => [headWord 0x11 0, 0]
  | .reserved12 => [headWord 0x12 0, 0]
  | .reserved13 => [headWord 0x13 0, 0]
  | .reserved14 => [headWord 0x14 0, 0]
  | .reserved15 => [headWord 0x15 0, 0]
  | .reserved16 => [headWord 0x16 0, 0]
  | .reserved17 => [headWord 0x17 0, 0]
  | .reserved18 => [headWord 0x18 0, 0]
  | .reserved19 => [headWord 0x19 0, 0]
  | .reserved1a => [headWord 0x1A 0, 0]
  | .reserved1b => [headWord 0x1B 0, 0]
  | .reserved1c => [headWord 0x1C 0, 0]
  | .reserved1d => [headWord 0x1D 0, 0]
  | .reserved1e => [headWord 0x1E 0, 0]
  | .reserved1f => [headWord 0x1F 0, 0]
  | .reserved20 => [headWord 0x20 0, 0]
  | .reserved21 => [headWord 0x21 0, 0]
  | .reserved22 => [headWord 0x22 0, 0]
  | .reserved23 => [headWord 0x23 0, 0]
  | .textureRectangle o => texRectWords 0x24 o
  | .textureRectangleFlip o => texRectWords 0x25 o
  | .syncLoad => [headWord 0x26 0, 0]
  | .syncPipe => [headWord 0x27 0, 0]
  | .syncTile => [headWord 0x28 0, 0]
  | .syncFull => [headWord 0x29 0, 0]
  | .setKeyGb o => [headWord 0x2A (o.widthG ++ o.widthB), o.centerG ++ o.scaleG ++ o.centerB ++ o.scaleB]
  | .setKeyR o => [headWord 0x2B 0, 0#4 ++ o.widthR ++ o.centerR ++ o.scaleR]
  | .setConvert o => [headWord 0x2C (0#2 ++ o.k0 ++ o.k1 ++ o.k2.extractLsb' 5 4), o.k2.extractLsb' 0 5 ++ o.k3 ++ o.k4 ++ o.k5]
  | .setScissor o => [headWord 0x2D (o.xh ++ o.yh), 0#6 ++ bitOf o.field ++ bitOf o.odd ++ o.xl ++ o.yl]
  | .setPrimDepth o => [headWord 0x2E 0, 0#1 ++ o.z ++ o.dz]
  | .setOtherModes m => otherModesWords 0x2F m
  | .loadTlut o => tileSizeWords 0x30 o
  | .reserved31 => [headWord 0x31 0, 0]
  | .setTileSize o => tileSizeWords 0x32 o
  | .loadBlock o => tileSizeWords 0x33 o
  | .loadTile o => tileSizeWords 0x34 o
  | .setTile o => tileWords 0x35 o
  | .fillRectangle o => rectWords 0x36 o 0
  | .setFillColor color => [headWord 0x37 0, color]
  | .setFogColor color => [headWord 0x38 0, colorWord color]
  | .setBlendColor color => [headWord 0x39 0, colorWord color]
  | .setPrimColor o => [headWord 0x3A (0#11 ++ o.minLevel ++ o.lodFrac), colorWord o.color]
  | .setEnvColor color => [headWord 0x3B 0, colorWord color]
  | .setCombine c => combineWords 0x3C c
  | .setTextureImage o => imageWords 0x3D o
  | .setZImage address => [headWord 0x3E 0, 0#8 ++ address]
  | .setColorImage o => imageWords 0x3F o

/-- The bytes of an instruction in memory order. -/
def encodeBytes (i : Instr) : List Byte := (encode i).flatMap bytesOfWord

/-- The words of an instruction whose bits are `w`, numbered from the least significant bit of the first word; bits from
`nbits` on are 0, up to the longest command of 44 words (30_encoding.md R122). -/
def tableWords (nbits w : Nat) : List Word :=
  (List.range 44).map fun k => BitVec.ofNat 32 ((w % 2 ^ nbits) >>> (32 * k))

/-- The instruction the decoder reads from bits numbered as spec/opcode_table.json numbers them: the words laid out as memory
holds them, each big-endian, the first at the lowest address. -/
def decodeTableWord (nbits w : Nat) : Option Instr :=
  match decode ((tableWords nbits w).flatMap bytesOfWord) with
  | .ok (i, _) => some i
  | .error _ => none

end Sys2Proof
end

