-- ==== Sys2Proof/Machine/State.lean ====
section
/-! DEFINITION. The state of the core as plain data (10_state.md), the reasons a step can stop, and the state after power-on. -/

namespace Sys2Proof.Machine

/-- One tile descriptor (10_state.md R41). Its derived cache (R42) is a function of these fields. -/
structure Tile where
  format : BitVec 3
  size : BitVec 2
  line : BitVec 9
  tmem : BitVec 9
  palette : BitVec 4
  ct : Bool
  mt : Bool
  cs : Bool
  ms : Bool
  maskT : BitVec 4
  maskS : BitVec 4
  shiftT : BitVec 4
  shiftS : BitVec 4
  sl : BitVec 12
  tl : BitVec 12
  sh : BitVec 12
  th : BitVec 12
deriving DecidableEq, Repr

/-- Main memory and the hidden-bits plane that travels with it (10_state.md R30, 20_memory.md R80, R86). -/
structure Ram where
  /-- `MEM`: the listed bytes; an unlisted byte reads 0 (log 4) -/
  mem : List Host.Cell
  /-- `HID`: the listed entries, one per halfword; an unlisted entry holds `HIDDEN_INIT` -/
  hid : Cells (BitVec 2)
deriving DecidableEq, Repr

/-- A call of `ProcessCommandList` in progress: the local variables of 40_command_processor.md R165 that live across the
commands it dispatches. -/
structure Call where
  /-- word index of the next word to fetch -/
  widx : Nat
  /-- words of the range still to fetch -/
  remaining : Nat
  /-- no batch of this call has been fetched yet -/
  fresh : Bool
deriving DecidableEq, Repr

/-- One row of the span buffer (10_state.md R62). -/
structure Span where
  lx : BitVec 12
  rx : BitVec 12
  unscrx : BitVec 12
  validline : Bool
  attrs : Attr8 Word
  majorx : Quad (BitVec 13)
  minorx : Quad (BitVec 13)
  invalyscan : Quad Bool
deriving DecidableEq, Repr

/-- The span constants of one primitive (10_state.md R61): the per-pixel increments `spans_dX`, the per-scanline terms
`spans_dXdy`, the coverage-correction terms `spans_cdX`, and `spans_dzpix`; signed 32-bit each. -/
structure SpanConsts where
  d : Attr8 Word
  dy : Attr8 Word
  cd : Rgba Word
  cdz : Word
  dzpix : Word
deriving DecidableEq, Repr

/-- The working colours and signals of one pixel (10_state.md R64, R65, R66). -/
structure PixelRegs where
  combined : Rgba (BitVec 9)
  texel0 : Rgba (BitVec 9)
  texel1 : Rgba (BitVec 9)
  nexttexel : Rgba (BitVec 9)
  shade : Rgba (BitVec 9)
  pixel : Rgba (BitVec 9)
  blended : Rgba (BitVec 9)
  memory : Rgba (BitVec 9)
  lodFrac : BitVec 9
  keyalpha : BitVec 8
  invPixelAlpha : BitVec 8
  blshifta : BitVec 3
  blshiftb : BitVec 3
  blendEn : Bool
  prewrap : Bool
  cvbit : Bool
  offx : BitVec 2
  offy : BitVec 2
  noise : BitVec 9
  cdith : BitVec 9
  adith : BitVec 9
  cvg : BitVec 4
  memcvg : BitVec 3
deriving DecidableEq, Repr

/-- The transient state of one primitive (10_state.md section 6): what the last drawing or load command left there. No command
reads any of it before writing it (70_reset_and_hazards.md R640). -/
structure Scratch where
  /-- the edge-walker block `ew[0..43]` (R60) -/
  ew : List Word
  /-- the span constants (R61) -/
  consts : SpanConsts
  /-- the span buffer, rows 0 to 1023 (R62); an unlisted row holds `Span.zero` -/
  spans : Cells Span
  /-- the coverage buffer, columns 0 to 1023 (R63); an unlisted column holds 0 -/
  cvgbuf : Cells Byte
  /-- the working colours and signals (R64 to R66) -/
  pixel : PixelRegs
deriving DecidableEq, Repr

/-- The whole state. `cfg` is the machine's configuration (00_scope.md R7), which nothing writes; every other field is state
the spec names. -/
structure State where
  cfg : Config
  startc : BitVec 24
  endc : BitVec 24
  current : BitVec 24
  xbus : Bool
  crashed : Bool
  cmdq : List Word
  qCur : Nat
  call : Option Call
  syncEvents : Nat
  ram : Ram
  tmem : Cells Byte
  xmem : Cells Word
  mode : OtherModes
  combine : Combine
  fogColor : Rgba (BitVec 8)
  blendColor : Rgba (BitVec 8)
  envColor : Rgba (BitVec 8)
  primColor : Rgba (BitVec 8)
  minLevel : BitVec 5
  primLodFrac : BitVec 8
  fillColor : BitVec 32
  keyCenter : Rgb (BitVec 8)
  keyScale : Rgb (BitVec 8)
  keyWidth : Rgb (BitVec 12)
  k0 : BitVec 9
  k1 : BitVec 9
  k2 : BitVec 9
  k3 : BitVec 9
  k4 : BitVec 9
  k5 : BitVec 9
  primZ : BitVec 32
  primDz : BitVec 16
  clipXh : BitVec 12
  clipYh : BitVec 12
  clipXl : BitVec 12
  clipYl : BitVec 12
  scfield : Bool
  sckeepodd : Bool
  fbFormat : BitVec 3
  fbSize : BitVec 2
  fbWidth : BitVec 11
  fbAddress : BitVec 24
  tiFormat : BitVec 3
  tiSize : BitVec 2
  tiWidth : BitVec 11
  tiAddress : BitVec 24
  zbAddress : BitVec 24
  maxLevel : BitVec 3
  noiseSeed : BitVec 32
  tiles : Vector Tile 8
  scratch : Scratch
deriving DecidableEq, Repr

/-- Why the machine would stop with a fault. The spec gives the core no fault that stops it: `raise Crashed` is a next state
with the latch set (60_exceptions.md R601). -/
inductive Fault where
  /-- Raised by `step` when the decoder refuses a command whose words are all in the queue. It cannot happen, because every
  6-bit opcode decodes (Laws: `step_total`); safe. -/
  | undecodable
deriving DecidableEq, Repr

/-- Why an instruction would be refused. -/
inductive Refusal where
  /-- Answered by an arm of `exec` whose instruction has no meaning yet; no arm does. Safe. -/
  | notModelled (mnemonic : String)
deriving DecidableEq, Repr

/-- A colour with one value in every component. -/
def Rgba.same {α : Type} (v : α) : Rgba α := { r := v, g := v, b := v, a := v }

/-- A channel triple with one value in every channel. -/
def Rgb.same {α : Type} (v : α) : Rgb α := { r := v, g := v, b := v }

/-- One value for all eight quantities. -/
def Attr8.same {α : Type} (v : α) : Attr8 α := { r := v, g := v, b := v, a := v, s := v, t := v, w := v, z := v }

/-- One value for all four sub-scanlines. -/
def Quad.same {α : Type} (v : α) : Quad α := { q0 := v, q1 := v, q2 := v, q3 := v }

/-- Every field of the other-modes register 0 (10_state.md R69, 70_reset_and_hazards.md R641). -/
def OtherModes.zero : OtherModes :=
  { cycleType := .one, perspTexEn := false, detailTexEn := false, sharpenTexEn := false, texLodEn := false, enTlut := false,
    tlutType := false, sampleType := false, midTexel := false, biLerp0 := false, biLerp1 := false, convertOne := false,
    keyEn := false, rgbDitherSel := 0, alphaDitherSel := 0, blendM1a0 := 0, blendM1a1 := 0, blendM1b0 := 0, blendM1b1 := 0,
    blendM2a0 := 0, blendM2a1 := 0, blendM2b0 := 0, blendM2b1 := 0, forceBlend := false, alphaCvgSelect := false,
    cvgTimesAlpha := false, zMode := .opaqueSurface, cvgDest := .clamp, colorOnCvg := false, imageReadEn := false,
    zUpdateEn := false, zCompareEn := false, antialiasEn := false, zSourceSel := false, ditherAlphaEn := false,
    alphaCompareEn := false }

/-- Every selector 0 (10_state.md R69). -/
def CombineSet.zero : CombineSet :=
  { subARgb := 0, subBRgb := 0, mulRgb := 0, addRgb := 0, subAA := 0, subBA := 0, mulA := 0, addA := 0 }

/-- Every field of a tile 0 (10_state.md R41, R69). -/
def Tile.zero : Tile :=
  { format := 0, size := 0, line := 0, tmem := 0, palette := 0, ct := false, mt := false, cs := false, ms := false,
    maskT := 0, maskS := 0, shiftT := 0, shiftS := 0, sl := 0, tl := 0, sh := 0, th := 0 }

/-- The row no walk has written: `validline` is 0 (10_state.md R69); the other fields hold no value and are 0 here (log 7). -/
def Span.zero : Span :=
  { lx := 0, rx := 0, unscrx := 0, validline := false, attrs := Attr8.same 0, majorx := Quad.same 0, minorx := Quad.same 0,
    invalyscan := Quad.same false }

/-- Span constants before any primitive: no value, 0 here (log 7). -/
def SpanConsts.zero : SpanConsts :=
  { d := Attr8.same 0, dy := Attr8.same 0, cd := Rgba.same 0, cdz := 0, dzpix := 0 }

/-- Working colours before any pixel: no value, 0 here (log 7). -/
def PixelRegs.zero : PixelRegs :=
  { combined := Rgba.same 0, texel0 := Rgba.same 0, texel1 := Rgba.same 0, nexttexel := Rgba.same 0, shade := Rgba.same 0,
    pixel := Rgba.same 0, blended := Rgba.same 0, memory := Rgba.same 0, lodFrac := 0, keyalpha := 0, invPixelAlpha := 0,
    blshifta := 0, blshiftb := 0, blendEn := false, prewrap := false, cvbit := false, offx := 0, offy := 0, noise := 0,
    cdith := 0, adith := 0, cvg := 0, memcvg := 0 }

/-- The transient state before any primitive (70_reset_and_hazards.md R640; log 7). -/
def Scratch.zero : Scratch :=
  { ew := [], consts := SpanConsts.zero, spans := [], cvgbuf := [], pixel := PixelRegs.zero }

/-- The power-on state (10_state.md R69, 70_reset_and_hazards.md R640) of the machine configured by `cfg`. Main memory and
`XMEM` belong to collaborators and are unlisted here (log 4). -/
def State.powerOn (cfg : Config) : State :=
  { cfg := cfg, startc := 0, endc := 0, current := 0, xbus := false, crashed := false, cmdq := [], qCur := 0, call := none,
    syncEvents := 0, ram := { mem := [], hid := [] }, tmem := [], xmem := [], mode := OtherModes.zero,
    combine := { c0 := CombineSet.zero, c1 := CombineSet.zero }, fogColor := Rgba.same 0, blendColor := Rgba.same 0,
    envColor := Rgba.same 0, primColor := Rgba.same 0, minLevel := 0, primLodFrac := 0, fillColor := 0,
    keyCenter := Rgb.same 0, keyScale := Rgb.same 0, keyWidth := Rgb.same 0, k0 := 0, k1 := 0, k2 := 0, k3 := 0, k4 := 0,
    k5 := 0, primZ := 0, primDz := 0, clipXh := 0, clipYh := 0, clipXl := 0, clipYl := 0, scfield := false,
    sckeepodd := false, fbFormat := 0, fbSize := 0, fbWidth := 1, fbAddress := 0, tiFormat := 0, tiSize := 0, tiWidth := 1,
    tiAddress := 0, zbAddress := 0, maxLevel := 0, noiseSeed := cfg.noiseSeed0, tiles := Vector.replicate 8 Tile.zero,
    scratch := Scratch.zero }

/-- The machine right after reset: power-on, with the parameters at their defaults. -/
def State.reset : State := State.powerOn Config.default

end Sys2Proof.Machine
end

