-- ==== Sys2Proof/Machine/Memory.lean ====
section
/-! DEFINITION. Sparse storage in canonical form: lookup, update, and the canonical form itself (20_memory.md R80, R93). -/

namespace Sys2Proof.Machine

/-- The value at key `a`; an unlisted key holds `d`. -/
def Cells.read {α : Type} (d : α) (m : Cells α) (a : Nat) : α :=
  match m with
  | [] => d
  | (b, v) :: rest => if b = a then v else Cells.read d rest a

/-- The list without the entry at key `a`. -/
def Cells.erase {α : Type} (m : Cells α) (a : Nat) : Cells α :=
  match m with
  | [] => []
  | (b, v) :: rest => if b = a then rest else (b, v) :: Cells.erase rest a

/-- The list with `v` at key `a`, in key order. -/
def Cells.insert {α : Type} (m : Cells α) (a : Nat) (v : α) : Cells α :=
  match m with
  | [] => [(a, v)]
  | (b, w) :: rest =>
    if a < b then (a, v) :: (b, w) :: rest
    else if a = b then (a, v) :: rest
    else (b, w) :: Cells.insert rest a v

/-- Writes `v` at key `a`. Writing the common value removes the entry, so that equal contents are equal lists. -/
def Cells.write {α : Type} [DecidableEq α] (d : α) (m : Cells α) (a : Nat) (v : α) : Cells α :=
  if v = d then Cells.erase m a else Cells.insert m a v

/-- Every key of the list is at least `lo` and the keys rise strictly. -/
def Cells.rising {α : Type} (lo : Nat) (m : Cells α) : Bool :=
  match m with
  | [] => true
  | (b, _) :: rest => decide (lo ≤ b) && Cells.rising (b + 1) rest

/-- The canonical form: keys rise strictly, every key is below `size`, no entry holds the common value `d`. -/
def Cells.wf {α : Type} [DecidableEq α] (d : α) (size : Nat) (m : Cells α) : Bool :=
  Cells.rising 0 m && m.all fun e => decide (e.1 < size) && decide (e.2 ≠ d)

/-- The canonical form of main memory of `size` bytes; an unlisted byte reads 0. -/
def Memory.wf (size : Nat) (mem : List Host.Cell) : Bool := Cells.wf (0 : Byte) size mem

end Sys2Proof.Machine
end

