-- ==== Sys2Proof/Machine/Ops.lean ====
section
/-! DEFINITION. The named operations over memory, texture memory, tiles and latches (20_memory.md, 60_exceptions.md). -/

namespace Sys2Proof.Machine

/-! ## Main memory and the hidden-bits plane -/

/-- `MEM_SIZE` in bytes (00_scope.md R7). -/
def memSize (cfg : Config) : Nat := 2 ^ cfg.memBits

/-- An index reduced to an unsigned 32-bit number (20_memory.md R82). -/
def index32 (a : Int) : Nat := (zext 32 a).toNat

/-- One byte of `MEM` at an address below the ceiling (R80). -/
def memByte (ram : Ram) (u : Nat) : Byte := Cells.read 0 ram.mem u

/-- One entry of `HID` at an index below the ceiling (R86). -/
def hidEntry (cfg : Config) (ram : Ram) (u : Nat) : BitVec 2 := Cells.read cfg.hiddenInit ram.hid u

/-- One byte of `MEM` replaced. -/
def setMemByte (ram : Ram) (u : Nat) (v : Byte) : Ram := { ram with mem := Cells.write 0 ram.mem u v }

/-- One entry of `HID` replaced. -/
def setHid (cfg : Config) (ram : Ram) (u : Nat) (h : BitVec 2) : Ram :=
  { ram with hid := Cells.write cfg.hiddenInit ram.hid u h }

/-- `Rd8` (R83). -/
def rd8 (cfg : Config) (ram : Ram) (a : Int) : Byte :=
  let u := index32 a
  if u < memSize cfg then memByte ram u else 0

/-- `Wr8` (R83). -/
def wr8 (cfg : Config) (ram : Ram) (a : Int) (v : Byte) : Ram :=
  let u := index32 a
  if u < memSize cfg then setMemByte ram u v else ram

/-- `Rd16` (R84). -/
def rd16 (cfg : Config) (ram : Ram) (i : Int) : Half :=
  let u := index32 i
  if u < memSize cfg / 2 then memByte ram (2 * u) ++ memByte ram (2 * u + 1) else 0

/-- The two bytes of halfword `u` written, upper byte first (R84). -/
def putHalf (ram : Ram) (u : Nat) (v : Half) : Ram :=
  setMemByte (setMemByte ram (2 * u) (v.extractLsb' 8 8)) (2 * u + 1) (v.extractLsb' 0 8)

/-- `Wr16` (R84). -/
def wr16 (cfg : Config) (ram : Ram) (i : Int) (v : Half) : Ram :=
  let u := index32 i
  if u < memSize cfg / 2 then putHalf ram u v else ram

/-- `Rd32` (R85). -/
def rd32 (cfg : Config) (ram : Ram) (i : Int) : Word :=
  let u := index32 i
  if u < memSize cfg / 4 then
    memByte ram (4 * u) ++ memByte ram (4 * u + 1) ++ memByte ram (4 * u + 2) ++ memByte ram (4 * u + 3)
  else 0

/-- The four bytes of word `u` written, most significant first (R85). -/
def putWord (ram : Ram) (u : Nat) (v : Word) : Ram :=
  setMemByte
    (setMemByte (setMemByte (setMemByte ram (4 * u) (v.extractLsb' 24 8)) (4 * u + 1) (v.extractLsb' 16 8)) (4 * u + 2)
      (v.extractLsb' 8 8)) (4 * u + 3) (v.extractLsb' 0 8)

/-- `Wr32` (R85). -/
def wr32 (cfg : Config) (ram : Ram) (i : Int) (v : Word) : Ram :=
  let u := index32 i
  if u < memSize cfg / 4 then putWord ram u v else ram

/-- `PairRd16` (R87). -/
def pairRd16 (cfg : Config) (ram : Ram) (i : Int) : Half × BitVec 2 :=
  let u := index32 i
  if u < memSize cfg / 2 then (memByte ram (2 * u) ++ memByte ram (2 * u + 1), hidEntry cfg ram u) else (0, 0)

/-- `PairWr16` (R87). -/
def pairWr16 (cfg : Config) (ram : Ram) (i : Int) (v : Half) (h : BitVec 2) : Ram :=
  let u := index32 i
  if u < memSize cfg / 2 then setHid cfg (putHalf ram u v) u h else ram

/-- `PairWr32` (R87). -/
def pairWr32 (cfg : Config) (ram : Ram) (i : Int) (v : Word) (h0 h1 : BitVec 2) : Ram :=
  let u := index32 i
  if u < memSize cfg / 4 then setHid cfg (setHid cfg (putWord ram u v) (2 * u) h0) (2 * u + 1) h1 else ram

/-- `PairWr8` (R87): the hidden entry is written with the odd byte only. -/
def pairWr8 (cfg : Config) (ram : Ram) (a : Int) (v : Byte) (h : BitVec 2) : Ram :=
  let u := index32 a
  if u < memSize cfg then
    if u % 2 = 1 then setHid cfg (setMemByte ram u v) (u / 2) h else setMemByte ram u v
  else ram

/-- `MemRead(addr, n)`, `n` in 1, 2, 4 (R88); the value as an integer. -/
def memRead (cfg : Config) (ram : Ram) (addr : Int) (n : Nat) : Int :=
  if n = 1 then unsigned (rd8 cfg ram addr)
  else if n = 2 then unsigned (rd16 cfg ram (asr addr 1))
  else unsigned (rd32 cfg ram (asr addr 2))

/-- `MemWrite(addr, n, v)`, `n` in 1, 2, 4 (R88). -/
def memWrite (cfg : Config) (ram : Ram) (addr : Int) (n : Nat) (v : Int) : Ram :=
  if n = 1 then wr8 cfg ram addr (BitVec.ofInt 8 v)
  else if n = 2 then wr16 cfg ram (asr addr 1) (BitVec.ofInt 16 v)
  else wr32 cfg ram (asr addr 2) (BitVec.ofInt 32 v)

/-! ## Texture memory and the alternate command source -/

/-- `tmem8[a]`, the index modulo 4096 (R95). -/
def tmem8 (tmem : Cells Byte) (a : Int) : Byte := Cells.read 0 tmem (zext 12 a).toNat

/-- `tmem16[i]`, the index modulo 2048 (R95). -/
def tmem16 (tmem : Cells Byte) (i : Int) : Half :=
  let u := (zext 11 i).toNat
  Cells.read 0 tmem (2 * u) ++ Cells.read 0 tmem (2 * u + 1)

/-- `tmem64[w]`, the index modulo 512 (R95). -/
def tmem64 (tmem : Cells Byte) (w : Int) : BitVec 64 :=
  let u := zext 9 w
  tmem16 tmem (4 * u) ++ tmem16 tmem (4 * u + 1) ++ tmem16 tmem (4 * u + 2) ++ tmem16 tmem (4 * u + 3)

/-- `tmem16[i] <- v` (R95). -/
def setTmem16 (tmem : Cells Byte) (i : Int) (v : Half) : Cells Byte :=
  let u := (zext 11 i).toNat
  Cells.write 0 (Cells.write 0 tmem (2 * u) (v.extractLsb' 8 8)) (2 * u + 1) (v.extractLsb' 0 8)

/-- `XMEM[widx & 0x3ff]` (R97). -/
def xmemWord (xmem : Cells Word) (widx : Nat) : Word := Cells.read 0 xmem (widx % 1024)

/-! ## Tiles -/

/-- `tile[n]` (10_state.md R41). -/
def getTile (s : State) (n : BitVec 3) : Tile := s.tiles[n.toNat]

/-- `tile[n]` replaced. -/
def setTile (s : State) (n : BitVec 3) (t : Tile) : State := { s with tiles := s.tiles.set n.toNat t }

/-! ## The latch, the completion signal, and leaving the latch -/

/-- `raise Crashed(reason)` (60_exceptions.md R601, R621): the latch is set and the command that raised it is abandoned by its
caller. The reason is a diagnostic, not state (log 11). -/
def raiseCrashed (s : State) : State := { s with crashed := true }

/-- `emit SyncComplete` (60_exceptions.md R606). -/
def emitSync (s : State) : State := { s with syncEvents := s.syncEvents + 1 }

/-- What `HostReset()` does to the state (70_reset_and_hazards.md R641): it clears the latch, the scissor, the other modes and
the queue, and keeps everything else. -/
def resetLatch (s : State) : State :=
  { s with crashed := false, clipXh := 0, clipYh := 0, clipXl := 0, clipYl := 0, scfield := false, sckeepodd := false,
           mode := OtherModes.zero, cmdq := [], qCur := 0 }

end Sys2Proof.Machine
end

