-- ==== Sys2Proof/Machine/CommandProcessor.lean ====
section
/-! DEFINITION. The command processor between two dispatches: word fetch, batches, the whole-command test, the end of a call
(40_command_processor.md R162 to R173). The state of a call in progress is `State.call`; one step of the machine is one command
dispatched, or the end of the call (00_scope.md R13, log 1). -/

namespace Sys2Proof.Machine

/-- `CMD_BATCH` in words; at least 44 by its form (00_scope.md R7, 40_command_processor.md R173 (a)). -/
def cmdBatch (cfg : Config) : Nat := 44 + cfg.batchExtra

/-- `FetchWord(widx)` (R162). -/
def fetchWord (s : State) (widx : Nat) : Word := if s.xbus then xmemWord s.xmem widx else rd32 s.cfg s.ram widx

/-- `n` words from word index `widx` on. -/
def fetchWords (s : State) (widx n : Nat) : List Word := (List.range n).map fun k => fetchWord s (widx + k)

/-- The words of the queue not yet dispatched, `CMDQ[q_cur .. q_ptr-1]` (10_state.md R26). -/
def pending (s : State) : List Word := s.cmdq.drop s.qCur

/-- Whether the words at the head of a word sequence are a whole command (R163). -/
def wholeHead (ws : List Word) : Bool := ws != [] && decide (cmdLen (opcodeOf (ws.getD 0 0)) ≤ ws.length)

/-- One bounded batch appended to the queue `q` (R165). -/
def fetchBatch (s : State) (c : Call) (q : List Word) : State :=
  let n := min c.remaining (cmdBatch s.cfg)
  { s with cmdq := q ++ fetchWords s c.widx n,
           call := some { widx := c.widx + n, remaining := c.remaining - n, fresh := false } }

/-- The queue made ready for the next dispatch (R165, R170): the first batch of a call is appended to the residue; later, when
the head of the queue is not a whole command and words remain, its words are dropped and fetched again with the next batch. -/
def refill (s : State) (c : Call) : State :=
  if c.fresh then fetchBatch s c s.cmdq
  else if wholeHead (pending s) then s
  else if c.remaining = 0 then s
  else
    let back := (pending s).length
    fetchBatch { s with qCur := 0 } { c with widx := c.widx - back, remaining := c.remaining + back } []

/-- The end of a call (R168, R169, R171, R172): a residue moves to the front of the queue, or is lost when the core has crashed;
`CURRENT <- END`. -/
def finishCall (s : State) : State :=
  { s with cmdq := if s.crashed then [] else pending s, qCur := 0, current := s.endc, call := none }

/-- `q_cur` moved past a command (R165). -/
def advance (s : State) (len : Nat) : State := { s with qCur := s.qCur + len }

/-- A cursor with its three low bits cleared (20_memory.md R90). -/
def aligned (c : BitVec 24) : Nat := c.toNat / 8 * 8

/-- `ProcessCommandList()` up to its first fetch (R165, R166): an empty or inverted range starts no call. -/
def startCall (s : State) : State :=
  if aligned s.endc ≤ aligned s.current then s
  else
    { s with call := some { widx := aligned s.current / 4, remaining := (aligned s.endc - aligned s.current) / 4,
                            fresh := true } }

/-- Words stored at word indices `k`, `k + 1`, ... of the selected command source. -/
def placeWords (s : State) (k : Nat) (ws : List Word) : State :=
  match ws with
  | [] => s
  | w :: rest =>
    let s1 := if s.xbus then { s with xmem := Cells.write 0 s.xmem (k % 1024) w }
      else { s with ram := wr32 s.cfg s.ram k w }
    placeWords s1 (k + 1) rest

/-- A call just started over `words` placed at the start of the selected command source, with no residue and the latch clear. -/
def loadCommand (s : State) (words : List Word) : State :=
  { placeWords s 0 words with
    crashed := false, cmdq := [], qCur := 0, startc := 0, current := 0, endc := BitVec.ofNat 24 (4 * words.length),
    call := some { widx := 0, remaining := words.length, fresh := true } }

end Sys2Proof.Machine
end

