-- ==== Sys2Proof/Machine/Combiner.lean ====
section
/-! DEFINITION. The two-stage colour combiner, the chroma key, and the coverage and alpha options (48_combiner_blender.md R470
to R485). -/

namespace Sys2Proof.Machine

/-- `Ext9(v)`: the special 9-bit extension (R473). -/
def ext9 (v : Int) : Int := if bitsAt v 7 2 = 3 then zext 9 v - 0x200 else zext 9 v

/-- `Clamp9(v)`: the special 9-bit clamp (R474). -/
def clamp9 (v : Int) : Int :=
  if bitsAt v 7 2 = 2 then 0xff else if bitsAt v 7 2 = 3 then 0 else zext 8 v

/-- `CombRGB(a, b, c, d)` (R475). DEDUCED (log 26): every source of input C is read through `sext_9` (R473), `k5` among them,
against 10_state.md R35. -/
def combRgb (a b c d : Int) : Int := zext 17 ((ext9 a - ext9 b) * sext 9 c + ext9 d * 256 + 0x80)

/-- `CombA(a, b, c, d)` (R475). -/
def combA (a b c d : Int) : Int := zext 9 (asr ((ext9 a - ext9 b) * sext 9 c + ext9 d * 256 + 0x80) 8)

/-- The per-pixel sources of the combiner (R472); the registers are read from the state. -/
structure CombineIn where
  combined : Rgba Int
  texel0 : Rgba Int
  texel1 : Rgba Int
  shade : Rgba Int
  lf : Int
  noise : Int
deriving DecidableEq, Repr

/-- One value in all three channels. -/
def allThree (v : Int) : Rgb Int := { r := v, g := v, b := v }

/-- The channels of a colour. -/
def rgbOf (c : Rgba Int) : Rgb Int := { r := c.r, g := c.g, b := c.b }

/-- A colour register read as integers. -/
def colorOf (c : Rgba (BitVec 8)) : Rgba Int := mapRgba unsigned c

/-- The first six sources, common to all menus (R471). -/
def commonSource (s : State) (i : CombineIn) (code : Nat) : Rgba Int :=
  if code = 0 then i.combined else if code = 1 then i.texel0 else if code = 2 then i.texel1
  else if code = 3 then colorOf s.primColor else if code = 4 then i.shade else colorOf s.envColor

/-- RGB input A (R471). -/
def rgbA (s : State) (i : CombineIn) (sel : BitVec 4) : Rgb Int :=
  let n := sel.toNat
  if n < 6 then rgbOf (commonSource s i n)
  else if n = 6 then allThree 0x100
  else if n = 7 then allThree i.noise
  else allThree 0

/-- RGB input B (R471). -/
def rgbB (s : State) (i : CombineIn) (sel : BitVec 4) : Rgb Int :=
  let n := sel.toNat
  if n < 6 then rgbOf (commonSource s i n)
  else if n = 6 then mapRgb unsigned s.keyCenter
  else if n = 7 then allThree (unsigned s.k4)
  else allThree 0

/-- RGB input C (R471); `k5` is given raw (R472), for `combRgb` to extend (log 26). -/
def rgbC (s : State) (i : CombineIn) (sel : BitVec 5) : Rgb Int :=
  let n := sel.toNat
  if n < 6 then rgbOf (commonSource s i n)
  else if n = 6 then mapRgb unsigned s.keyScale
  else if n < 13 then allThree (commonSource s i (n - 7)).a
  else if n = 13 then allThree i.lf
  else if n = 14 then allThree (unsigned s.primLodFrac)
  else if n = 15 then allThree (unsigned s.k5)
  else allThree 0

/-- RGB input D (R471). -/
def rgbD (s : State) (i : CombineIn) (sel : BitVec 3) : Rgb Int :=
  let n := sel.toNat
  if n < 6 then rgbOf (commonSource s i n) else if n = 6 then allThree 0x100 else allThree 0

/-- Alpha inputs A, B and D (R471). -/
def alphaABD (s : State) (i : CombineIn) (sel : BitVec 3) : Int :=
  let n := sel.toNat
  if n < 6 then (commonSource s i n).a else if n = 6 then 0x100 else 0

/-- Alpha input C (R471). -/
def alphaC (s : State) (i : CombineIn) (sel : BitVec 3) : Int :=
  let n := sel.toNat
  if n = 0 then i.lf else if n < 6 then (commonSource s i n).a else if n = 6 then unsigned s.primLodFrac else 0

/-- One stage of the combiner: the RGB results with their fraction, the alpha result, and RGB input A for the key's bypass
(R475, R477). -/
structure StageOut where
  raw : Rgb Int
  alpha : Int
  bypass : Rgb Int
deriving DecidableEq, Repr

/-- One stage with the selectors `c` (R475). -/
def combineStage (s : State) (i : CombineIn) (c : CombineSet) : StageOut :=
  let a := rgbA s i c.subARgb
  let b := rgbB s i c.subBRgb
  let m := rgbC s i c.mulRgb
  let d := rgbD s i c.addRgb
  { raw := { r := combRgb a.r b.r m.r d.r, g := combRgb a.g b.g m.g d.g, b := combRgb a.b b.b m.b d.b },
    alpha := combA (alphaABD s i c.subAA) (alphaABD s i c.subBA) (alphaC s i c.mulA) (alphaABD s i c.addA), bypass := a }

/-- `combined_color` after a stage (R475, R476). -/
def stageColor (o : StageOut) : Rgba Int :=
  { r := asr o.raw.r 8, g := asr o.raw.g 8, b := asr o.raw.b 8, a := o.alpha }

/-- The key distance of one channel (R481). -/
def keyDistance (width : BitVec 12) (raw : Int) : Int :=
  let k := sext 17 raw
  if k ≥ 0 then unsigned width * 16 - k else unsigned width * 16 + k

/-- `Key(raw)` (R481). -/
def keyAlpha (s : State) (raw : Rgb Int) : Int :=
  clip (min (min (keyDistance s.keyWidth.r raw.r) (keyDistance s.keyWidth.g raw.g)) (keyDistance s.keyWidth.b raw.b)) 0 0xff

/-- An alpha with the dither added, saturating at 255 (R478). -/
def ditherAlpha (a adith : Int) : Int := if bitAt (a + adith) 8 then 0xff else a + adith

/-- What the combiner leaves for the later stages (R478); `keyalpha` is none with `key_en` 0, where no rule gives it a value
(log 23). -/
structure CombineOut where
  combined : Rgba Int
  pixel : Rgba Int
  shadeA : Int
  cvg : Int
  keyalpha : Option Int
deriving DecidableEq, Repr

/-- `Finish(raw, bypass, adith, cvg)` (R478, R484, R485). -/
def combineFinish (s : State) (o : StageOut) (shadeA adith cvg0 : Int) : CombineOut :=
  let m := s.mode
  let full := clamp9 o.alpha
  let a0 := if full = 0xff then 0x100 else full
  let key := if m.keyEn then some (keyAlpha s o.raw) else none
  let rgb := if m.keyEn then o.bypass else rgbOf (stageColor o)
  let temp := asr (a0 * cvg0 + 4) 3
  let cvg := if m.cvgTimesAlpha then zext 4 (asr temp 5) else cvg0
  let a :=
    if m.alphaCvgSelect then
      let v := if m.cvgTimesAlpha then temp else cvg * 32
      if v > 0xff then 0xff else v
    else
      match key with
      | some k => k
      | none => ditherAlpha a0 adith
  { combined := stageColor o,
    pixel := { r := clamp9 rgb.r, g := clamp9 rgb.g, b := clamp9 rgb.b, a := a },
    shadeA := ditherAlpha shadeA adith, cvg := cvg, keyalpha := key }

/-- `Combiner1(adith, cvg)` (R477); `combined` reads 0 (R472). -/
def combiner1 (s : State) (i : CombineIn) (adith cvg : Int) : CombineOut :=
  combineFinish s (combineStage s { i with combined := Rgba.same 0 } s.combine.c1) i.shade.a adith cvg

/-- `Combiner2(adith, cvg)`; `next` is `nexttexel_color` (R476). -/
def combiner2 (s : State) (i : CombineIn) (next : Rgba Int) (adith cvg : Int) : CombineOut :=
  let o0 := combineStage s { i with combined := Rgba.same 0 } s.combine.c0
  let i1 := { i with combined := stageColor o0, texel0 := i.texel1, texel1 := next }
  combineFinish s (combineStage s i1 s.combine.c1) i.shade.a adith cvg

end Sys2Proof.Machine
end

