-- ==== Sys2Proof/Machine/Flags.lean ====
section
/-! DEFINITION. The derived flags and values: the tile's derived cache (10_state.md R42), the blender's pass flags
(48_combiner_blender.md R511), what a coverage mask stands for (49_depth_coverage_framebuffer.md R553, R556). The core has no
condition codes (10_state.md R29). -/

namespace Sys2Proof.Machine

/-! ## The derived cache of a tile -/

/-- `clampdiffs` (R42). -/
def clampDiffS (t : Tile) : Int := zext 10 (asr (unsigned t.sh) 2 - asr (unsigned t.sl) 2)

/-- `clampdifft` (R42). -/
def clampDiffT (t : Tile) : Int := zext 10 (asr (unsigned t.th) 2 - asr (unsigned t.tl) 2)

/-- `clampens`: clamping is forced on when the mask is 0 (R42). -/
def clampEnS (t : Tile) : Bool := t.cs || t.maskS == 0

/-- `clampent` (R42). -/
def clampEnT (t : Tile) : Bool := t.ct || t.maskT == 0

/-- `masksclamped` and `masktclamped` of a mask (R42). -/
def maskClamped (m : BitVec 4) : Nat := min m.toNat 10

/-! ## The flags the blender derives from the modes -/

/-- The four selectors of one blender pass (48_combiner_blender.md R510, R511). -/
structure BlendSel where
  m1a : BitVec 2
  m1b : BitVec 2
  m2a : BitVec 2
  m2b : BitVec 2
deriving DecidableEq, Repr

/-- The selectors of pass 0. -/
def blendSel0 (m : OtherModes) : BlendSel := { m1a := m.blendM1a0, m1b := m.blendM1b0, m2a := m.blendM2a0, m2b := m.blendM2b0 }

/-- The selectors of pass 1. -/
def blendSel1 (m : OtherModes) : BlendSel := { m1a := m.blendM1a1, m1b := m.blendM1b1, m2a := m.blendM2a1, m2b := m.blendM2b1 }

/-- `partial_reject_p` (R511). -/
def partialReject (b : BlendSel) : Bool := b.m2b == 0 && b.m1b == 0

/-- `special_bsel_p` (R511). -/
def specialBsel (b : BlendSel) : Bool := b.m2b == 1

/-! ## Coverage -/

/-- `fmask(i)`: the columns sub-scanline `i` owns, bit 3 the leftmost (49_depth_coverage_framebuffer.md R553). -/
def fmask (i : Nat) : BitVec 4 := if i % 2 = 0 then 0xa else 0x5

/-- `maskshift(i)` (R553). -/
def maskShift (i : Nat) : Nat := if i < 2 then 4 else 0

/-- A 4-bit partial mask placed at `maskshift(i)` (R555). -/
def placeMask (m : BitVec 4) (i : Nat) : Byte := m.setWidth 8 <<< maskShift i

/-- `LeftCvg(x, i)` for an edge position in u10.3 (R553). -/
def leftCvg (x : BitVec 13) (i : Nat) : BitVec 4 := (0xf#4 >>> ((x.toNat % 8 + 1) / 2)) &&& fmask i

/-- `RightCvg(x, i)` (R553). -/
def rightCvg (x : BitVec 13) (i : Nat) : BitVec 4 := (0xf0#8 >>> ((x.toNat % 8 + 1) / 2)).setWidth 4 &&& fmask i

/-- `row(i)` of the sample grid of a mask byte, bit 3 column 0 (R556). -/
def sampleRow (m : Byte) (i : Nat) : BitVec 4 := (m >>> maskShift i).setWidth 4 &&& fmask i

/-- `cvg` of a mask byte: its population count (R556). -/
def coverageOf (m : Byte) : Nat := popcount8 m

/-- `cvbit` of a mask byte: the sample at the pixel's top-left corner (R556). -/
def cvBitOf (m : Byte) : Bool := m.getLsbD 7

/-- `offy` of a mask byte: the first sub-scanline with a sample set; 0 for the empty mask (R556). -/
def offYOf (m : Byte) : Nat :=
  if sampleRow m 0 ≠ 0 then 0 else if sampleRow m 1 ≠ 0 then 1 else if sampleRow m 2 ≠ 0 then 2
  else if sampleRow m 3 ≠ 0 then 3 else 0

/-- The column of the leftmost set bit of a sample row; 0 for the empty row. -/
def leftmost (r : BitVec 4) : Nat :=
  if r.getLsbD 3 then 0 else if r.getLsbD 2 then 1 else if r.getLsbD 1 then 2 else if r.getLsbD 0 then 3 else 0

/-- `offx` of a mask byte: the leftmost sample of that sub-scanline (R556). -/
def offXOf (m : Byte) : Nat := leftmost (sampleRow m (offYOf m))

/-- What is derived from a mask byte (R556), the four values together. -/
structure Cover where
  offx : Nat
  offy : Nat
  cvg : Int
  cvbit : Bool
deriving DecidableEq, Repr

/-- The coverage of a pixel from its mask byte (R556). -/
def coverOf (m : Byte) : Cover := { offx := offXOf m, offy := offYOf m, cvg := (coverageOf m : Int), cvbit := cvBitOf m }

end Sys2Proof.Machine
end

