-- ==== Sys2Proof/Machine/Coverage.lean ====
section
/-! DEFINITION. The coverage buffer of a scanline and the coverage-centre correction (49_depth_coverage_framebuffer.md R555,
R557). -/

namespace Sys2Proof.Machine

/-- The left edge positions of a row (R555). -/
def leftEdges (flip : Bool) (row : Span) : Quad (BitVec 13) := if flip then row.majorx else row.minorx

/-- The right edge positions of a row (R555). -/
def rightEdges (flip : Bool) (row : Span) : Quad (BitVec 13) := if flip then row.minorx else row.majorx

/-- The first column of a row's coverage (R555). -/
def cvgFirst (flip : Bool) (row : Span) : Nat := if flip then row.rx.toNat else row.lx.toNat

/-- The last column of a row's coverage (R555). -/
def cvgLast (flip : Bool) (row : Span) : Nat := if flip then row.lx.toNat else row.rx.toNat

/-- Sub-scanline `i` applied to the mask byte of column `k`: an invalid one clears its two samples; a valid one clears them at
and beyond its edges' pixels and puts back the partial masks there (R555). -/
def cvgStep (flip : Bool) (row : Span) (k : Nat) (m : Byte) (i : Nat) : Byte :=
  let f := placeMask (fmask i) i
  if getQuad row.invalyscan i then m &&& ~~~f
  else
    let l := getQuad (leftEdges flip row) i
    let r := getQuad (rightEdges flip row) i
    let li := l.toNat / 8
    let ri := r.toNat / 8
    let cleared := if k ≤ li ∨ ri ≤ k then m &&& ~~~f else m
    if li < ri then
      (cleared ||| (if k = ri then placeMask (rightCvg r i) i else 0)) ||| (if k = li then placeMask (leftCvg l i) i else 0)
    else if ri = li ∧ k = li then cleared ||| placeMask (leftCvg l i &&& rightCvg r i) i
    else cleared

/-- The mask byte of column `k` of a row (R555). -/
def cvgMask (flip : Bool) (row : Span) (k : Nat) : Byte := [0, 1, 2, 3].foldl (cvgStep flip row k) 0xff

/-- `ComputeCvg`: the columns from first to last of the row are written (R555). -/
def computeCvg (flip : Bool) (row : Span) (buf : Cells Byte) : Cells Byte :=
  let first := cvgFirst flip row
  ((List.range (cvgLast flip row + 1 - first)).map (first + ·)).foldl (fun b k => Cells.write 0 b k (cvgMask flip row k)) buf

/-- The terms of the coverage-centre correction (R557): the gradients of one primitive. -/
structure Centre where
  cd : Rgba Int
  dy : Rgba Int
  cdz : Int
  dzdy : Int
deriving DecidableEq, Repr

/-- One colour component of `CorrectClip` (R557). -/
def correctColor (c : Cover) (sc cd dy : Int) : Int :=
  clamp9 (if c.cvg = 8 then asr sc 2 else asr (sc * 4 + (c.offx : Int) * cd + (c.offy : Int) * dy) 4)

/-- The colour of `CorrectClip`, `shade_color`, from the interpolated colour (R557). -/
def correctShade (e : Centre) (c : Cover) (x : Attr8 Int) : Rgba Int :=
  { r := correctColor c (asr x.r 14) e.cd.r e.dy.r, g := correctColor c (asr x.g 14) e.cd.g e.dy.g,
    b := correctColor c (asr x.b 14) e.cd.b e.dy.b, a := correctColor c (asr x.a 14) e.cd.a e.dy.a }

/-- The depth of `CorrectClip` from the interpolated depth (R557). -/
def correctDepth (e : Centre) (c : Cover) (z : Int) : Int :=
  let sz0 := bitsAt z 10 22
  let sz := if c.cvg = 8 then asr sz0 3 else asr (sz0 * 4 + (c.offx : Int) * e.cdz + (c.offy : Int) * e.dzdy) 5
  if bitsAt sz 17 2 = 2 then 0x3ffff else if bitsAt sz 17 2 = 3 then 0 else zext 18 sz

end Sys2Proof.Machine
end

