-- ==== Sys2Proof/Machine/Tables.lean ====
section
/-! DEFINITION. The lookup table bank `TABLES` and the pseudo-random source `NOISE` (00_scope.md R8). -/

namespace Sys2Proof.Machine

/-- The rounded quotient `2^20 / (64 + n)` (47_texture.md R413). -/
def rcpPointDefault (n : Nat) : Nat := (2 * 2 ^ 20 + (64 + n)) / (2 * (64 + n))

/-- `TABLES.rcp_point[n]` (R413). -/
def rcpPoint (cfg : Config) (n : Nat) : Int :=
  match cfg.rcp with
  | .default => (rcpPointDefault n : Int)
  | .other => unsigned (Config.otherRcpPoint n)

/-- `TABLES.rcp_diff[n]` (R413). -/
def rcpDiff (cfg : Config) (n : Nat) : Int :=
  match cfg.rcp with
  | .default => (rcpPointDefault n : Int) - (rcpPointDefault (n + 1) : Int)
  | .other => unsigned (Config.otherRcpDiff n)

/-- `TABLES.magic[d]`, the magic-square matrix, row-major (48_combiner_blender.md R505). -/
def magicAt (cfg : Config) (d : Nat) : Int :=
  match cfg.magic with
  | .default => [0, 6, 1, 7, 4, 2, 5, 3, 3, 5, 2, 4, 7, 1, 6, 0].getD d 0
  | .other => unsigned (Config.otherMagic d)

/-- `TABLES.bayer[d]`, the Bayer matrix, row-major (R505). -/
def bayerAt (cfg : Config) (d : Nat) : Int :=
  match cfg.bayer with
  | .default => [0, 4, 1, 5, 4, 0, 5, 1, 3, 7, 2, 6, 7, 3, 6, 2].getD d 0
  | .other => unsigned (Config.otherBayer d)

/-- `BlDiv(d, n)` (48_combiner_blender.md R513). -/
def blDiv (cfg : Config) (d n : Int) : Int :=
  match cfg.bldiv with
  | .default => if d < 1 then 0xff else min 0xff (n / d)
  | .other => unsigned (Config.otherBlDiv (d * 2 ^ 11 + n).toNat)

/-- `noise_seed` after one draw (R507). -/
def noiseNext (cfg : Config) (seed : BitVec 32) : BitVec 32 :=
  match cfg.noise with
  | .default => seed * 0x343fd#32 + 0x269ec3#32
  | .other => Config.otherNoiseNext seed

/-- What the draw that left the seed at `seed` returns (R507). -/
def noiseDraw (cfg : Config) (seed : BitVec 32) : Int :=
  match cfg.noise with
  | .default => unsigned (seed.extractLsb' 16 15)
  | .other => unsigned (Config.otherNoiseDraw seed)

end Sys2Proof.Machine
end

