-- ==== Sys2Proof/Machine/Blender.lean ====
section
/-! DEFINITION. Alpha compare, dither, noise and the blender (48_combiner_blender.md R500 to R522). -/

namespace Sys2Proof.Machine

/-! ## Noise and dither -/

/-- One draw of `Rand()`: the seed after it and the value (R507). -/
structure Draw where
  seed : BitVec 32
  value : Int
deriving DecidableEq, Repr

/-- `Rand()` (R507). -/
def rand (s : State) (seed : BitVec 32) : Draw :=
  let seed' := noiseNext s.cfg seed
  { seed := seed', value := noiseDraw s.cfg seed' }

/-- The combiner noise of a draw (R507). -/
def noiseOf (draw : Int) : Int := zext 3 draw * 64 + 0x20

/-- The index of a pixel in the dither matrices (R505). -/
def ditherIndex (x y : Int) : Nat := (zext 2 y * 4 + zext 2 x).toNat

/-- What the dither step answers (R505). -/
structure DitherOut where
  seed : BitVec 32
  cdith : Int
  adith : Int
deriving DecidableEq, Repr

/-- `cdith` and `adith` of the pixel at column `x`, row `y`; the colour dither may draw (R505, R507). -/
def ditherOf (s : State) (seed : BitVec 32) (x y noise : Int) : DitherOut :=
  let d := ditherIndex x y
  let sel := s.mode.rgbDitherSel.toNat
  let draw := rand s seed
  let base := if sel = 1 ∨ sel = 3 then bayerAt s.cfg d else magicAt s.cfg d
  let cdith := if sel = 0 then magicAt s.cfg d else if sel = 1 then bayerAt s.cfg d else if sel = 2 then zext 9 draw.value else 7
  let asel := s.mode.alphaDitherSel.toNat
  let adith := if asel = 0 then base else if asel = 1 then zext 3 (inv base) else if asel = 2 then bitsAt noise 6 3 else 0
  { seed := if sel = 2 then draw.seed else seed, cdith := cdith, adith := adith }

/-- One component rounded up to the next step of 8 when its low bits exceed the dither value (R506). -/
def ditherUp (v c : Int) : Int := if zext 3 v > c then (if v > 247 then 255 else clearLow v 3 + 8) else v

/-- `RgbDither`, applied unless `rgb_dither_sel` is 3 (R506). -/
def rgbDither (s : State) (c : Rgb Int) (cdith : Int) : Rgb Int :=
  if s.mode.rgbDitherSel.toNat = 3 then c
  else if s.mode.rgbDitherSel.toNat = 2 then
    { r := ditherUp c.r (bitsAt cdith 0 3), g := ditherUp c.g (bitsAt cdith 3 3), b := ditherUp c.b (bitsAt cdith 6 3) }
  else { r := ditherUp c.r cdith, g := ditherUp c.g cdith, b := ditherUp c.b cdith }

/-! ## Alpha compare -/

/-- Whether the alpha compare draws from `NOISE` (R500). -/
def comparesNoise (s : State) : Bool := s.mode.alphaCompareEn && s.mode.ditherAlphaEn

/-- `AlphaCompare(alpha)`, with the value of the threshold draw (R500). -/
def alphaPasses (s : State) (draw alpha : Int) : Bool :=
  if s.mode.alphaCompareEn then
    decide (alpha ≥ (if s.mode.ditherAlphaEn then zext 8 draw else unsigned s.blendColor.a))
  else true

/-! ## The blender -/

/-- What the blender reads of the pixel (R510, R511, R512). -/
structure BlendIn where
  pixel : Rgba Int
  memory : Rgba Int
  shadeA : Int
  blshifta : Nat
  blshiftb : Nat
deriving DecidableEq, Repr

/-- The colour of a selector; `pixel` and `memory` are what codes 0 and 1 read in this pass (R510, R517). -/
def blendColor (s : State) (pixel memory : Rgb Int) (sel : BitVec 2) : Rgb Int :=
  let n := sel.toNat
  if n = 0 then pixel else if n = 1 then memory else if n = 2 then rgbOf (colorOf s.blendColor)
  else rgbOf (colorOf s.fogColor)

/-- Weight 1 of a pass (R511). -/
def weight1 (s : State) (i : BlendIn) (sel : BitVec 2) : Int :=
  let n := sel.toNat
  if n = 0 then i.pixel.a else if n = 1 then unsigned s.fogColor.a else if n = 2 then i.shadeA else 0

/-- `inv_pixel_alpha` of a pass (R511). -/
def invAlpha (w1 : Int) : Int := zext 8 (inv w1)

/-- Weight 2 of a pass (R511). -/
def weight2 (i : BlendIn) (w1 : Int) (sel : BitVec 2) : Int :=
  let n := sel.toNat
  if n = 0 then invAlpha w1 else if n = 1 then i.memory.a else if n = 2 then 0xff else 0

/-- One channel of the blend equation for 5-bit weights `b1`, `b2` (R512). -/
def blendChannel (s : State) (shifted : Bool) (b1 b2 c1 c2 : Int) : Int :=
  let bl := c1 * b1 + c2 * (b2 + 1)
  if shifted then bitsAt bl 5 8
  else blDiv s.cfg (asr (clearLow b1 2 + clearLow b2 2 + 4) 2) (bitsAt bl 2 11)

/-- `Blend(p, shifted)` of the pass with selectors `b` (R512). -/
def blendPass (s : State) (i : BlendIn) (b : BlendSel) (shifted : Bool) (pixel memory : Rgb Int) : Rgb Int :=
  let w1 := weight1 s i b.m1b
  let w2 := weight2 i w1 b.m2b
  let b1 := if specialBsel b then clearLow (asr (asr w1 3) i.blshifta) 2 else asr w1 3
  let b2 := if specialBsel b then clearLow (asr (asr w2 3) i.blshiftb) 2 + 3 else asr w2 3
  let c1 := blendColor s pixel memory b.m1a
  let c2 := blendColor s pixel memory b.m2a
  { r := blendChannel s shifted b1 b2 c1.r c2.r, g := blendChannel s shifted b1 b2 c1.g c2.g,
    b := blendChannel s shifted b1 b2 c1.b c2.b }

/-- What the depth stage decides for the blender (49_depth_coverage_framebuffer.md R543). -/
structure DepthFlags where
  blendEn : Bool
  prewrap : Bool
  blshifta : Nat
  blshiftb : Nat
deriving DecidableEq, Repr

/-- Whether the coverage lets the pixel be drawn (R520). -/
def coverDraws (s : State) (cvg : Int) (cvbit : Bool) : Bool := if s.mode.antialiasEn then decide (cvg ≠ 0) else cvbit

/-- Whether the last pass may write a new colour, rather than colour 2 (R516, R517, R520). -/
def colorUpdates (s : State) (f : DepthFlags) : Bool := !s.mode.colorOnCvg || f.prewrap

/-- Whether the last pass, where it writes a new colour, applies the blend equation, rather than pass colour 1 (R516, R517). -/
def equationRuns (i : BlendIn) (b : BlendSel) (f : DepthFlags) : Bool :=
  f.blendEn && !(partialReject b && decide (i.pixel.a ≥ 0xff))

/-- The last pass: no blending, the equation, or colour 2 (R516, R517, R520). -/
def blendLast (s : State) (i : BlendIn) (b : BlendSel) (f : DepthFlags) (pixel memory : Rgb Int) : Rgb Int :=
  if colorUpdates s f then
    if equationRuns i b f then blendPass s i b s.mode.forceBlend pixel memory else blendColor s pixel memory b.m1a
  else blendColor s pixel memory b.m2a

/-- `inv_pixel_alpha` after the last pass, `before` it: written only where the equation runs (R516, R517). -/
def lastInvAlpha (s : State) (i : BlendIn) (b : BlendSel) (f : DepthFlags) (before : Option Int) : Option Int :=
  if colorUpdates s f && equationRuns i b f then some (invAlpha (weight1 s i b.m1b)) else before

/-- The result of pass 0 in 2-cycle mode, `blended_color` (R517). -/
def blendFirst (s : State) (i : BlendIn) : Rgb Int :=
  blendPass s i (blendSel0 s.mode) true (rgbOf i.pixel) (rgbOf i.memory)

/-- The colour `Blender1` writes for a pixel it does not drop (R516). -/
def blender1 (s : State) (i : BlendIn) (f : DepthFlags) (cdith : Int) : Rgb Int :=
  rgbDither s (blendLast s i (blendSel0 s.mode) f (rgbOf i.pixel) (rgbOf i.memory)) cdith

/-- What the blender computes of a pixel besides the colour it writes: the channels of `blended_color`, and `inv_pixel_alpha`;
none where no step of R516 or R517 gives it a value. -/
structure BlendRegs where
  blended : Option (Rgb Int)
  invPixelAlpha : Option Int
deriving DecidableEq, Repr

/-- Those of `Blender1` for a pixel it does not drop (R516). -/
def blender1Regs (s : State) (i : BlendIn) (f : DepthFlags) : BlendRegs :=
  { blended := none, invPixelAlpha := lastInvAlpha s i (blendSel0 s.mode) f none }

/-- Those of `Blender2` for a pixel it does not drop: pass 0's complement stays where pass 1 does not blend (R517). -/
def blender2Regs (s : State) (i : BlendIn) (f : DepthFlags) : BlendRegs :=
  { blended := some (blendFirst s i),
    invPixelAlpha := lastInvAlpha s i (blendSel1 s.mode) f (some (invAlpha (weight1 s i (blendSel0 s.mode).m1b))) }

/-- Those of a pixel the blender drops or does not see. -/
def droppedRegs : BlendRegs := { blended := none, invPixelAlpha := none }

/-- The colour `Blender2` writes for a pixel it does not drop; pass 0's result stands in the slot `BLEND2_SLOT` names (R517). -/
def blender2 (s : State) (i : BlendIn) (f : DepthFlags) (cdith : Int) : Rgb Int :=
  let first := blendFirst s i
  let pixel := if s.cfg.blend2Memory then rgbOf i.pixel else first
  let memory := if s.cfg.blend2Memory then first else rgbOf i.memory
  rgbDither s (blendLast s i (blendSel1 s.mode) f pixel memory) cdith

end Sys2Proof.Machine
end

