-- ==== Sys2Proof/Machine/Depth.lean ====
section
/-! DEFINITION. The depth value, the depth compare and the depth write (49_depth_coverage_framebuffer.md R530 to R548). -/

namespace Sys2Proof.Machine

/-- `SHIFT[e]` (R532). -/
def zShift (e : Nat) : Nat := if e < 6 then 6 - e else 0

/-- `ADD[e]` (R532). -/
def zAdd (e : Nat) : Nat :=
  match e with
  | 0 => 0x00000
  | 1 => 0x20000
  | 2 => 0x30000
  | 3 => 0x38000
  | 4 => 0x3c000
  | 5 => 0x3e000
  | 6 => 0x3f000
  | _ => 0x3f800

/-- `ZDecompress(zh)` (R532). -/
def zDecompress (zh : Nat) : Nat :=
  let e := zh / 2 ^ 13 % 8
  let m := zh / 4 % 2 ^ 11
  (m * 2 ^ zShift e + zAdd e) % 2 ^ 18

/-- `ZCompress(z)`, `z` an 18-bit depth (R534). -/
def zCompress (z : Nat) : Nat :=
  let k := z / 2 ^ 11 % 128
  let mant := fun (v : Nat) => v / 4 % 2 ^ 11 * 4
  if k < 0x40 then mant (z / 16)
  else if k < 0x60 then mant (z / 8) + 0x2000
  else if k < 0x70 then mant (z / 4) + 0x4000
  else if k < 0x78 then mant (z / 2) + 0x6000
  else if k < 0x7c then mant z + 0x8000
  else if k < 0x7e then mant (z * 2) + 0xa000
  else if k < 0x7f then mant (z * 4) + 0xc000
  else mant (z * 4) + 0xe000

/-- `DzCompress(v)` of a 16-bit value (R533). -/
def dzCompress (v : Nat) : Nat :=
  (if v &&& 0xff00 ≠ 0 then 8 else 0) + (if v &&& 0xf0f0 ≠ 0 then 4 else 0) + (if v &&& 0xcccc ≠ 0 then 2 else 0) +
    (if v &&& 0xaaaa ≠ 0 then 1 else 0)

/-- `HighBit(v)` (R543). -/
def highBit (v : Nat) : Nat := if v = 0 then 0 else 2 ^ v.log2

/-- What the depth stage is given of the pixel (R543). -/
structure DepthIn where
  zi : Int
  sz : Int
  dzpix : Nat
  dzenc : Nat
  cvg : Int
  memcvg : Int
deriving DecidableEq, Repr

/-- What the depth compare answers (R543). -/
structure DepthOut where
  pass : Bool
  flags : DepthFlags
  cvg : Int
deriving DecidableEq, Repr

/-- The stored delta-Z as the compare uses it: widened in the near buckets; `none` forces coplanar (R543). -/
def storedDz (e raw : Nat) : Option Nat :=
  let dzmem := 2 ^ raw
  if e < 3 then (if dzmem ≠ 0x8000 then some (max (dzmem * 2) (16 / 2 ^ e)) else none) else some dzmem

/-- The comparisons of the depth stage (R543, R545). -/
structure DepthTest where
  overflow : Bool
  farther : Bool
  infront : Bool
  nearer : Bool
  max : Bool
deriving DecidableEq, Repr

/-- Opaque surfaces, and interpenetrating ones outside the interpenetration case (R545). -/
def passOpaque (t : DepthTest) : Bool := t.max || (if t.overflow then t.infront else t.nearer)

/-- The coverage of an interpenetrating pixel (R545). -/
def interpenetrate (oz sz : Int) (dznew : Nat) (cvg : Int) : Int :=
  let dzenc := dzCompress (dznew % 2 ^ 16)
  zext 4 (asr (zext 4 (asr oz dzenc - asr sz dzenc) * cvg) 3)

/-- Pass or fail, and the coverage, of the Z mode (R545). -/
def zModeResult (s : State) (t : DepthTest) (oz sz : Int) (dznew : Nat) (cvg : Int) : Bool × Int :=
  match s.mode.zMode with
  | .opaqueSurface => (passOpaque t, cvg)
  | .interpenetrating =>
    if t.infront && t.farther && t.overflow then (true, interpenetrate oz sz dznew cvg) else (passOpaque t, cvg)
  | .transparent => (t.infront || t.max, cvg)
  | .decal => (t.farther && t.nearer && !t.max, cvg)

/-- `ZCompare` (R543). -/
def zCompare (s : State) (ram : Ram) (i : DepthIn) : DepthOut :=
  let sz := zext 18 i.sz
  let overflow := bitAt (i.memcvg + i.cvg) 3
  if s.mode.zCompareEn then
    let (zh, hid) := pairRd16 s.cfg ram i.zi
    let oz : Int := (zDecompress zh.toNat : Int)
    let raw := zh.toNat % 4 * 4 + hid.toNat
    let e := zh.toNat / 2 ^ 13
    let stored := storedDz e raw
    let coplanar := stored.isNone
    let dznew := highBit (i.dzpix ||| stored.getD 0xffff)
    let dzwide : Int := (dznew * 8 : Nat)
    let farther := coplanar || decide (sz + dzwide ≥ oz)
    let t : DepthTest :=
      { overflow := overflow, farther := farther, infront := decide (sz < oz),
        nearer := coplanar || decide (sz - dzwide ≤ oz), max := decide (oz = 0x3ffff) }
    let r := zModeResult s t oz sz dznew i.cvg
    { pass := r.1, cvg := r.2,
      flags := { blendEn := s.mode.forceBlend || (!overflow && s.mode.antialiasEn && farther), prewrap := overflow,
                 blshifta := min (i.dzenc - raw) 4, blshiftb := min (raw - i.dzenc) 4 } }
  else
    { pass := true, cvg := i.cvg,
      flags := { blendEn := s.mode.forceBlend || (!overflow && s.mode.antialiasEn), prewrap := overflow, blshifta := 0,
                 blshiftb := if i.dzenc < 0xb then 4 else 0xf - i.dzenc } }

/-- The halfword `ZStore` writes (R548). -/
def zStoreHalf (sz : Int) (dzenc : Nat) : Half := BitVec.ofNat 16 (zCompress (zext 18 sz).toNat + dzenc / 4)

/-- `ZStore(zi, sz, dzpixenc)` (R548). -/
def zStore (cfg : Config) (ram : Ram) (zi sz : Int) (dzenc : Nat) : Ram :=
  pairWr16 cfg ram zi (zStoreHalf sz dzenc) (BitVec.ofNat 2 dzenc)

end Sys2Proof.Machine
end

