-- ==== Sys2Proof/Machine/Operands.lean ====
section
/-! DEFINITION. The operand forms: assembling the edge-walker block of each drawing command (45_primitive_commands.md R321, R334
to R338) and reading the primitive out of the block (46_edge_walker.md R361, R363). -/

namespace Sys2Proof.Machine

/-! ## Assembling the block -/

/-- The words of a block a command carries, or as many zeros (R321). -/
def blockOr0 (n : Nat) (ws : Option (List Word)) : List Word :=
  match ws with
  | some l => l
  | none => List.replicate n 0

/-- `AssembleTri`: `ew[0..43]` of a triangle; the words of an absent block are 0 (R321, R322). The bits the command format does
not name are 0 here; nothing reads them (R333). -/
def assembleTri (op : BitVec 6) (e : TriEdges) (c : Option ShadeBlock) (x : Option TexBlock) (z : Option ZBlock) : List Word :=
  edgeWords op e ++ blockOr0 16 (c.map shadeWords) ++ blockOr0 16 (x.map texWords) ++ blockOr0 4 (z.map zWords)

/-- The bottom coordinate of a rectangle, rounded up to the last quarter of its scanline in copy and fill mode (R335, R336,
R338). DEDUCED (log 24): the rounding comes before the comparison of `YL` with `YH` of R339, so that in those modes a rectangle
with `YL < YH` in one scanline, `YH < YL | 3`, draws its row. -/
def rectBottom (cycle : CycleType) (yl : BitVec 12) : BitVec 12 :=
  match cycle with
  | .one => yl
  | .two => yl
  | .copy => yl ||| 3
  | .fill => yl ||| 3

/-- A u10.2 coordinate as an edge word, `x << 14` (R334). -/
def rectEdge (x : BitVec 12) : Word := 0#6 ++ x ++ 0#14

/-- `ew[0..7]` of a rectangle: `FLIP` = 1, `LEVEL` = 0, vertical edges, `YM` = `YL` (R334, R335). -/
def rectHead (op : BitVec 6) (tile : BitVec 3) (yl : BitVec 12) (o : RectOps) : List Word :=
  [headWord op (1#1 ++ 0#4 ++ tile ++ 0#4 ++ yl), 0#4 ++ yl ++ 0#4 ++ o.yh,
   rectEdge o.xl, 0, rectEdge o.xh, 0, rectEdge o.xl, 0]

/-- An s6.10 step as the 32-bit s16.16 step: integer half `step >> 5`, fraction half `(step & 0x1f) << 11` (R335). -/
def rectStep (d : BitVec 16) : Word := d.sshiftRight 5 ++ (d.extractLsb' 0 5 ++ 0#11)

/-- The start coordinates of a texture rectangle as 32-bit values; `W` is 0 (R335). -/
def rectStart (o : TexRectOps) : Stw := { s := o.s ++ 0#16, t := o.t ++ 0#16, w := 0 }

/-- The texture block of TEXTURE_RECTANGLE: `S` steps along x, `T` per scanline (R335). -/
def texRectBlock (o : TexRectOps) : TexBlock :=
  { base := rectStart o, dx := { s := rectStep o.dsdx, t := 0, w := 0 }, de := { s := 0, t := rectStep o.dtdy, w := 0 },
    dy := { s := 0, t := rectStep o.dtdy, w := 0 } }

/-- The texture block of TEXTURE_RECTANGLE_FLIP: the two steps exchanged (R336). -/
def texRectFlipBlock (o : TexRectOps) : TexBlock :=
  { base := rectStart o, dx := { s := 0, t := rectStep o.dtdy, w := 0 }, de := { s := rectStep o.dsdx, t := 0, w := 0 },
    dy := { s := rectStep o.dsdx, t := 0, w := 0 } }

/-- The block of a rectangle (R334 to R338). -/
def assembleRect (op : BitVec 6) (cycle : CycleType) (tile : BitVec 3) (o : RectOps) (x : Option TexBlock) : List Word :=
  rectHead op tile (rectBottom cycle o.yl) o ++ List.replicate 16 0 ++ blockOr0 16 (x.map texWords) ++ List.replicate 4 0

/-! ## Reading the block -/

/-- What the block says of the primitive (46_edge_walker.md R361, R363). Positions and slopes are integers; attributes are the
32-bit values of the block. -/
structure Primitive where
  flip : Bool
  level : BitVec 3
  tile : BitVec 3
  yl : Int
  ym : Int
  yh : Int
  xl : Int
  dxldy : Int
  xh : Int
  dxhdy : Int
  xm : Int
  dxmdy : Int
  signDxhdy : Bool
  base : Attr8 Int
  dx : Attr8 Int
  de : Attr8 Int
  dy : Attr8 Int
deriving DecidableEq, Repr

/-- `ew[k]`. -/
def ewWord (ew : List Word) (k : Nat) : Word := ew.getD k 0

/-- `hi(i, f)`: the first of a pair (R363). -/
def ewHi (ew : List Word) (i f : Nat) : Int := signed (hiOf (ewWord ew i) (ewWord ew f))

/-- `lo(i, f)`: the second of a pair (R363). -/
def ewLo (ew : List Word) (i f : Nat) : Int := signed (loOf (ewWord ew i) (ewWord ew f))

/-- One group of the eight quantities: colour integers at `c`, fractions at `c + 4`; texture integers at `x`, fractions at
`x + 4`; depth at `z` (45_primitive_commands.md R322, 46_edge_walker.md R363). -/
def ewGroup (ew : List Word) (c x z : Nat) : Attr8 Int :=
  { r := ewHi ew c (c + 4), g := ewLo ew c (c + 4), b := ewHi ew (c + 1) (c + 5), a := ewLo ew (c + 1) (c + 5),
    s := ewHi ew x (x + 4), t := ewLo ew x (x + 4), w := ewHi ew (x + 1) (x + 5), z := signed (ewWord ew z) }

/-- Reading the block (R361, R363). -/
def decodeEw (ew : List Word) : Primitive :=
  { flip := flagOf (ewWord ew 0) 23, level := fieldOf (ewWord ew 0) 19 3, tile := fieldOf (ewWord ew 0) 16 3,
    yl := sext 14 (unsigned (ewWord ew 0)), ym := sext 14 (unsigned (fieldOf (ewWord ew 1) 16 14)),
    yh := sext 14 (unsigned (ewWord ew 1)),
    xl := sext 28 (unsigned (ewWord ew 2)), dxldy := sext 30 (unsigned (ewWord ew 3)),
    xh := sext 28 (unsigned (ewWord ew 4)), dxhdy := sext 30 (unsigned (ewWord ew 5)),
    xm := sext 28 (unsigned (ewWord ew 6)), dxmdy := sext 30 (unsigned (ewWord ew 7)),
    signDxhdy := flagOf (ewWord ew 5) 31,
    base := ewGroup ew 8 24 40, dx := ewGroup ew 10 26 41, de := ewGroup ew 16 32 42, dy := ewGroup ew 18 34 43 }

end Sys2Proof.Machine
end

