-- ==== Sys2Proof/Machine/EdgeWalker.lean ====
section
/-! DEFINITION. The scanline edge walker: span constants, the sub-scanline walk, scissor, bounds, baking
(46_edge_walker.md R364 to R389). -/

namespace Sys2Proof.Machine

/-! ## Span constants -/

/-- `absz(v)` of a 16-bit value (46_edge_walker.md R367). -/
def absZ (v : Int) : Int := if v ≥ 0x8000 then zext 15 (inv v) else v

/-- `NormDz(sum)` (R367). -/
def normDz (sum : Int) : Int :=
  if sum ≥ 0x4000 then 0x8000 else if sum = 0 then 1 else if sum = 1 then 3 else 2 * 2 ^ msb sum

/-- `spans_dzpix` (R367). -/
def spansDzPix (q : Primitive) : Int :=
  normDz (zext 16 (absZ (bitsAt q.dy.z 16 16) + absZ (bitsAt q.dx.z 16 16)))

/-- The span constants (R366, R367). -/
def spanConsts (q : Primitive) : SpanConsts :=
  let d : Attr8 Int :=
    { r := clearLow q.dx.r 5, g := clearLow q.dx.g 5, b := clearLow q.dx.b 5, a := clearLow q.dx.a 5, s := clearLow q.dx.s 5,
      t := clearLow q.dx.t 5, w := clearLow q.dx.w 5, z := q.dx.z }
  let dy : Attr8 Int :=
    { r := sext 13 (asr q.dy.r 14), g := sext 13 (asr q.dy.g 14), b := sext 13 (asr q.dy.b 14), a := sext 13 (asr q.dy.a 14),
      s := clearLow q.dy.s 15, t := clearLow q.dy.t 15, w := clearLow q.dy.w 15, z := sext 22 (asr q.dy.z 10) }
  let cd : Rgba Int :=
    { r := sext 13 (asr d.r 14), g := sext 13 (asr d.g 14), b := sext 13 (asr d.b 14), a := sext 13 (asr d.a 14) }
  { d := mapAttr8 (BitVec.ofInt 32) d, dy := mapAttr8 (BitVec.ofInt 32) dy, cd := mapRgba (BitVec.ofInt 32) cd,
    cdz := BitVec.ofInt 32 (sext 22 (asr d.z 10)), dzpix := BitVec.ofInt 32 (spansDzPix q) }

/-! ## What is fixed for the whole walk -/

/-- The values the walk reads and does not write: flip and the load/dump flag (R364), the edge the minor edge switches to
(R369), the correction terms (R365), the vertical limits (R372), the scissor and interlace registers (R380, R384). -/
structure WalkPlan where
  flip : Bool
  ldflag : Nat
  ym : Int
  lowLeft : Int
  lowLeftInc : Int
  rightInc : Int
  de : Attr8 Int
  diff : Attr8 Int
  dxh : Attr8 Int
  yhlimit : Int
  yllimit : Int
  yhclose : Int
  ylfar : Int
  ycur : Int
  clipXh : Int
  clipXl : Int
  scfield : Bool
  sckeepodd : Bool
deriving DecidableEq, Repr

/-- The lower limit in quarter scanlines, exclusive (R372). -/
def ylLimit (yl clipYl : Int) : Int :=
  let inside := if bitAt yl 13 then true else if bitAt yl 12 then false else decide (zext 12 yl < clipYl)
  if inside then yl else clipYl

/-- The last sub-scanline of the walk (R372). -/
def ylFar (yl yllimit : Int) : Int :=
  let far := clearLow yllimit 2 + 3
  if asr yl 2 > asr far 2 then far + 4 else far

/-- The upper limit in quarter scanlines, inclusive (R372). -/
def yhLimit (yh clipYh : Int) : Int :=
  let inside := if bitAt yh 13 then false else if bitAt yh 12 then true else decide (yh ≥ clipYh)
  if inside then yh else clipYh

/-- `dXdiff` of one quantity (R365). -/
def attrDiff (doOffset : Bool) (de dy : Int) : Int :=
  if doOffset then
    clearLow de 9 - asr (clearLow de 9) 2 - clearLow dy 9 + asr (clearLow dy 9) 2
  else 0

/-- `dXdxh` of one quantity (R365). -/
def attrDxh (cycle : CycleType) (dx : Int) : Int :=
  match cycle with
  | .copy => 0
  | .one => clearLow (asr dx 8) 1
  | .two => clearLow (asr dx 8) 1
  | .fill => clearLow (asr dx 8) 1

/-- The plan of the walk of primitive `q` (R364, R365, R372). -/
def walkPlan (s : State) (q : Primitive) : WalkPlan :=
  let skew := Bool.xor q.signDxhdy q.flip
  let yllimit := ylLimit q.yl (unsigned s.clipYl)
  let yhlimit := yhLimit q.yh (unsigned s.clipYh)
  { flip := q.flip, ldflag := if skew then 0 else 3, ym := q.ym, lowLeft := clearLow q.xl 1,
    lowLeftInc := clearLow (asr q.dxldy 2) 1, rightInc := clearLow (asr q.dxhdy 2) 1, de := q.de,
    diff := zipAttr8 (attrDiff (!skew)) q.de q.dy, dxh := mapAttr8 (attrDxh s.mode.cycleType) q.dx,
    yhlimit := yhlimit, yllimit := yllimit, yhclose := clearLow yhlimit 2, ylfar := ylFar q.yl yllimit,
    ycur := clearLow q.yh 2, clipXh := unsigned s.clipXh, clipXl := unsigned s.clipXl, scfield := s.scfield,
    sckeepodd := s.sckeepodd }

/-! ## The running state of the walk -/

/-- The variables of the walk (R364, R371, R382) and the span buffer being written. `row` is the row of the current scanline;
it enters the buffer when the scanline is closed. -/
structure Walk where
  xleft : Int
  xright : Int
  leftInc : Int
  attrs : Attr8 Int
  major : Int
  minor : Int
  allover : Bool
  allunder : Bool
  allinval : Bool
  row : Span
  spans : Cells Span
deriving DecidableEq, Repr

/-- The walk before its first step (R364). The span buffer starts empty, which changes no result (R397; log 12). -/
def walkStart (q : Primitive) : Walk :=
  { xleft := clearLow q.xm 1, xright := clearLow q.xh 1, leftInc := clearLow (asr q.dxmdy 2) 1, attrs := q.base, major := 0,
    minor := 0, allover := true, allunder := true, allinval := true, row := Span.zero, spans := [] }

/-- What the horizontal scissor makes of one edge position (R380). -/
structure Scissored where
  pos : Int
  underL : Bool
  overR : Bool
deriving DecidableEq, Repr

/-- `ScissorX(x)` (R380). -/
def scissorX (clipXh clipXl x : Int) : Scissored :=
  let lo := clipXh * 2
  let hi := clipXl * 2
  let sticky : Int := if bitsAt x 1 13 > 0 then 1 else 0
  let low := bitsAt x 14 12 * 2 + sticky
  let underL := bitAt x 27 || (decide (low < lo) && !bitAt x 26)
  let xsc := if underL then lo else bitsAt x 14 13 * 2 + sticky
  let overR := bitAt xsc 13 || decide (zext 13 xsc ≥ hi)
  let xsc' := if overR then hi else xsc
  { pos := zext 13 xsc', underL := underL, overR := overR }

/-- An edge position at quarter-pixel precision with the sign bit inverted (R374). -/
def edgeKey (x : Int) : Int := bitsAt (x + 2 ^ 27) 14 14

/-- `Crossed(xleft, xright)` (R374). -/
def crossed (flip : Bool) (xleft xright : Int) : Bool :=
  if flip then decide (edgeKey xleft < edgeKey xright) else decide (edgeKey xright < edgeKey xleft)

/-- One baked attribute (R385). -/
def bake (xfrac x diff dxh : Int) : Int := sext 32 (clearLow (clearLow x 9 + diff - xfrac * dxh) 10)

/-- The eight baked attributes (R385). -/
def bakeAll (p : WalkPlan) (xright : Int) (x : Attr8 Int) : Attr8 Word :=
  let xfrac := bitsAt xright 8 8
  mapAttr8 (BitVec.ofInt 32) (zipAttr8 (fun v f => f v) x (zipAttr8 (fun diff dxh v => bake xfrac v diff dxh) p.diff p.dxh))

/-- Reset of the per-scanline accumulators at `spix = 0` (R382). -/
def resetRow (p : WalkPlan) (w : Walk) : Walk :=
  { w with major := if p.flip then 0xfff else 0, minor := if p.flip then 0 else 0xfff, allover := true, allunder := true,
           allinval := true, row := Span.zero }

/-- One valid sub-scanline taken into the bounds of the span (R382). -/
def accumulate (p : WalkPlan) (w : Walk) (left right : Int) : Walk :=
  if p.flip then { w with minor := max w.minor (zext 12 (asr left 3)), major := min w.major (zext 12 (asr right 3)) }
  else { w with minor := min w.minor (zext 12 (asr left 3)), major := max w.major (zext 12 (asr right 3)) }

/-- Whether row `j` may be kept by the interlace fields (R384). -/
def fieldKeeps (p : WalkPlan) (j : Int) : Bool := !p.scfield || (Bool.xor p.sckeepodd (bitAt j 0) == false)

/-- Closing a scanline at `spix = 3` (R382, R384). Rows outside the span buffer are dropped (R389). -/
def closeRow (p : WalkPlan) (j : Int) (w : Walk) : Walk :=
  let row := { w.row with lx := BitVec.ofInt 12 w.minor, rx := BitVec.ofInt 12 w.major,
                          validline := !w.allinval && !w.allover && !w.allunder && fieldKeeps p j }
  { w with row := row,
           spans := if 0 ≤ j ∧ j < 1024 then Cells.write Span.zero w.spans j.toNat row else w.spans }

/-- The part of a step at or below `yhclose` (R370). -/
def stepInside (p : WalkPlan) (k : Int) (w : Walk) : Walk :=
  let spix := (zext 2 k).toNat
  let w := if spix = 0 then resetRow p w else w
  let r := scissorX p.clipXh p.clipXl w.xright
  let l := scissorX p.clipXh p.clipXl w.xleft
  let invaly := decide (k < p.yhlimit) || decide (k ≥ p.yllimit) || crossed p.flip w.xleft w.xright
  let w := { w with allover := w.allover && r.overR && l.overR, allunder := w.allunder && r.underL && l.underL,
                    allinval := w.allinval && invaly,
                    row := { w.row with majorx := setQuad w.row.majorx spix (BitVec.ofInt 13 r.pos),
                                        minorx := setQuad w.row.minorx spix (BitVec.ofInt 13 l.pos),
                                        invalyscan := setQuad w.row.invalyscan spix invaly } }
  let w := if invaly then w else accumulate p w l.pos r.pos
  let w := if spix = p.ldflag then
      { w with row := { w.row with attrs := bakeAll p w.xright w.attrs, unscrx := BitVec.ofInt 12 (asr w.xright 16) } }
    else w
  if spix = 3 then closeRow p (asr k 2) w else w

/-- `Step(k)` (R370). -/
def walkStep (p : WalkPlan) (w : Walk) (k : Int) : Walk :=
  let w := if k = p.ym then { w with xleft := p.lowLeft, leftInc := p.lowLeftInc } else w
  let w := if k ≥ p.yhclose then stepInside p k w else w
  let w := if zext 2 k = 3 then { w with attrs := zipAttr8 (fun x de => sext 32 (x + de)) w.attrs p.de } else w
  { w with xleft := sext 32 (w.xleft + w.leftInc), xright := sext 32 (w.xright + p.rightInc) }

/-- The span buffer that the walk of primitive `q` leaves (R368). -/
def walkSpans (s : State) (q : Primitive) : Cells Span :=
  let p := walkPlan s q
  ((rangeTo p.ycur p.ylfar).foldl (walkStep p) (walkStart q)).spans

/-- Row `j` of the span buffer; a row outside it has `validline` 0 (R389). -/
def spanRow (spans : Cells Span) (j : Int) : Span :=
  if 0 ≤ j ∧ j < 1024 then Cells.read Span.zero spans j.toNat else Span.zero

end Sys2Proof.Machine
end

