-- ==== Sys2Proof/Machine/Framebuffer.lean ====
section
/-! DEFINITION. Framebuffer addressing, read, write, fill and copy writes (49_depth_coverage_framebuffer.md R560 to R588). -/

namespace Sys2Proof.Machine

/-- The pixel index of column `x`, row `y` (R560). -/
def pixelIndex (s : State) (x y : Int) : Int := unsigned s.fbWidth * y + x

/-- The byte address of pixel `p` in an 8-bit or 4-bit image (R560). -/
def fbByte (s : State) (p : Int) : Int := unsigned s.fbAddress + p

/-- The halfword index of pixel `p` in a 16-bit image (R560). -/
def fbHalf (s : State) (p : Int) : Int := asr (unsigned s.fbAddress) 1 + p

/-- The word index of pixel `p` in a 32-bit image (R560). -/
def fbWord (s : State) (p : Int) : Int := asr (unsigned s.fbAddress) 2 + p

/-- The halfword index of pixel `p` in the depth image (R560). -/
def zHalf (s : State) (p : Int) : Int := asr (unsigned s.zbAddress) 1 + p

/-- `memory_color` and `memcvg` of a pixel (R562). -/
structure FbPixel where
  color : Rgba Int
  memcvg : Int
deriving DecidableEq, Repr

/-- The channels and the coverage of a framebuffer pixel, the coverage replaced by 7 when `image_read_en` is 0 (R562, R570). -/
def fbPixel (s : State) (r g b cvg : Int) : FbPixel :=
  let c := if s.mode.imageReadEn then cvg else 7
  { color := { r := r, g := g, b := b, a := c * 32 }, memcvg := c }

/-- `FbRead(p)` (R562). -/
def fbRead (s : State) (ram : Ram) (p : Int) : FbPixel :=
  match s.fbSize.toNat with
  | 0 => { color := { r := 0, g := 0, b := 0, a := 0xe0 }, memcvg := 7 }
  | 1 =>
    let v := unsigned (rd8 s.cfg ram (fbByte s p))
    { color := { r := v, g := v, b := v, a := 0xe0 }, memcvg := 7 }
  | 2 =>
    let (h, hid) := pairRd16 s.cfg ram (fbHalf s p)
    let w := unsigned h
    let cvg := zext 1 w * 4 + unsigned hid
    if s.fbFormat.toNat = 0 then fbPixel s (bitsAt w 11 5 * 8) (bitsAt w 6 5 * 8) (bitsAt w 1 5 * 8) cvg
    else fbPixel s (asr w 8) (asr w 8) (asr w 8) cvg
  | _ =>
    let w := unsigned (rd32 s.cfg ram (fbWord s p))
    fbPixel s (bitsAt w 24 8) (bitsAt w 16 8) (bitsAt w 8 8) (bitsAt w 5 3)

/-- `FinalCvg(blend_en, cvg, memcvg)` (R575). -/
def finalCvg (s : State) (blendEn : Bool) (cvg memcvg : Int) : BitVec 3 :=
  match s.mode.cvgDest with
  | .clamp =>
    let v := if blendEn then cvg + memcvg else cvg - 1
    if bitAt v 3 then 7 else BitVec.ofInt 3 v
  | .wrap => BitVec.ofInt 3 (cvg + memcvg)
  | .zap => 7
  | .save => BitVec.ofInt 3 memcvg

/-- The hidden bits that go with a stored bit: both set or both clear. -/
def hidOf (b : Bool) : BitVec 2 := if b then 3 else 0

/-- `FbWrite` of an 8-bit-per-channel colour with final coverage `fc` (R566). -/
def fbWrite (s : State) (ram : Ram) (p : Int) (c : Rgb Int) (fc : BitVec 3) : Ram :=
  let r : BitVec 8 := BitVec.ofInt 8 c.r
  let g : BitVec 8 := BitVec.ofInt 8 c.g
  let b : BitVec 8 := BitVec.ofInt 8 c.b
  match s.fbSize.toNat with
  | 0 => wr8 s.cfg ram (fbByte s p) 0
  | 1 => pairWr8 s.cfg ram (fbByte s p) r (hidOf (r.getLsbD 0))
  | 2 =>
    if s.fbFormat.toNat = 0 then
      pairWr16 s.cfg ram (fbHalf s p)
        (r.extractLsb' 3 5 ++ g.extractLsb' 3 5 ++ b.extractLsb' 3 5 ++ fc.extractLsb' 2 1) (fc.extractLsb' 0 2)
    else pairWr16 s.cfg ram (fbHalf s p) (r ++ fc ++ 0#5) 0
  | _ => pairWr32 s.cfg ram (fbWord s p) (r ++ g ++ b ++ fc ++ 0#5) (hidOf (g.getLsbD 0)) 0

/-- `FbFill(p)`: `fill_color` laid over memory as a repeating big-endian word (R580). A 4-bit image is not filled: fill mode has
stopped before (R601). -/
def fbFill (s : State) (ram : Ram) (p : Int) : Ram :=
  match s.fbSize.toNat with
  | 0 => ram
  | 1 =>
    let a := fbByte s p
    let v : Byte := s.fillColor.extractLsb' ((3 - (zext 2 a).toNat) * 8) 8
    pairWr8 s.cfg ram a v (hidOf (v.getLsbD 0))
  | 2 =>
    let i := fbHalf s p
    let v : Half := if bitAt i 0 then s.fillColor.extractLsb' 0 16 else s.fillColor.extractLsb' 16 16
    pairWr16 s.cfg ram i v (hidOf (v.getLsbD 0))
  | _ =>
    pairWr32 s.cfg ram (fbWord s p) s.fillColor (hidOf (s.fillColor.getLsbD 16)) (hidOf (s.fillColor.getLsbD 0))

/-- `CopyWrite(p, v)` (R588): bytes only; an image that is not 8-bit is 16-bit here. -/
def copyWrite (s : State) (ram : Ram) (p : Int) (v : Half) : Ram :=
  if s.fbSize.toNat = 1 then
    pairWr8 s.cfg ram (fbByte s p) (v.extractLsb' 0 8) (hidOf (v.getLsbD 0))
  else
    let a := clearLow (unsigned s.fbAddress + 2 * p) 1
    pairWr8 s.cfg (pairWr8 s.cfg ram a (v.extractLsb' 8 8) 0) (a + 1) (v.extractLsb' 0 8) (hidOf (v.getLsbD 0))

end Sys2Proof.Machine
end

