-- ==== Sys2Proof/Machine/Texture.lean ====
section
/-! DEFINITION. The texture stage: divider, shift, clamp, mask, TMEM fetch and decode, filter, conversion, level of detail
(47_texture.md). -/

namespace Sys2Proof.Machine

/-- A texture position `(s, t, w)` or its increments (47_texture.md R411). -/
structure TexPos where
  s : Int
  t : Int
  w : Int
deriving DecidableEq, Repr

/-- Sum of two positions, each component wrapped at 32 bits (R452). -/
def addPos (p q : TexPos) : TexPos := { s := sext 32 (p.s + q.s), t := sext 32 (p.t + q.t), w := sext 32 (p.w + q.w) }

/-! ## Perspective division -/

/-- What the reciprocal ROM answers (R413). -/
structure Reciprocal where
  shift : Nat
  rcp : Int
deriving DecidableEq, Repr

/-- `Rcp(i)`, `i` in 0 to 0x7fff (R413). -/
def rcpOf (cfg : Config) (i : Int) : Reciprocal :=
  let shift := if i = 0 then 14 else 14 - msb i
  let normout := zext 14 (i * 2 ^ shift)
  let wnorm := zext 8 normout * 4
  let n := (asr normout 8).toNat
  { shift := shift, rcp := zext 15 (asr (-(rcpDiff cfg n) * wnorm) 10 + rcpPoint cfg n) }

/-- One quotient of `TcDiv` with its overflow flags in bits 18 and 17 (R412). -/
def divideOne (r : Reciprocal) (carry : Bool) (c : Int) : Int :=
  let prod := sext 16 c * r.rcp
  let oob := bitsAt prod (29 - r.shift) (r.shift + 1)
  let shifted := if r.shift = 14 then prod else asr prod (13 - r.shift)
  let temp := if r.shift = 14 then prod * 2 else shifted
  let excess : Int :=
    if oob ≠ 2 ^ (r.shift + 1) - 1 ∧ oob ≠ 0 then (if bitAt shifted 29 then 0x20000 else 0x40000) else 0
  zext 17 temp + (if carry then orBits 19 excess 0x40000 else excess)

/-- `TcDiv(ss, st, sw)` (R412). -/
def tcDiv (s : State) (ss st sw : Int) : Int × Int :=
  if s.mode.perspTexEn then
    let carry := decide (sext 16 sw ≤ 0)
    let r := rcpOf s.cfg (zext 15 sw)
    (divideOne r carry ss, divideOne r carry st)
  else (zext 17 (sext 16 ss), zext 17 (sext 16 st))

/-- `TcClamp(v)` (R415). -/
def tcClamp (v : Int) : Int :=
  if bitAt v 18 then 0x7fff
  else if bitAt v 17 then 0x8000
  else if bitsAt v 15 2 = 1 then 0x7fff
  else if bitsAt v 15 2 = 2 then 0x8000
  else zext 16 v

/-! ## Shift, clamp, mask -/

/-- `TcShift(c, shifter)` (R418). -/
def tcShift (c : Int) (shifter : BitVec 4) : Int :=
  if shifter.toNat < 11 then asr (sext 16 c) shifter.toNat else sext 16 (c * 2 ^ (16 - shifter.toNat))

/-- An integer texel coordinate and the filter fraction of its axis (R420, R422). -/
structure TexelCoord where
  int : Int
  frac : Int
deriving DecidableEq, Repr

/-- `TcClampTile` and the fraction it leaves (R422). -/
def tcClampTile (c : Int) (max clampen : Bool) (diff : Int) : TexelCoord :=
  if clampen = false then { int := asr c 5, frac := zext 5 c }
  else if bitAt c 16 then { int := 0, frac := 0 }
  else if max then { int := diff, frac := 0 }
  else { int := asr c 5, frac := zext 5 c }

/-- `TcMask(v, m, mir)` (R424). -/
def tcMask (v : Int) (m : BitVec 4) (mir : Bool) : Int :=
  if m.toNat = 0 then v
  else zext (maskClamped m) (if mir && bitAt v (maskClamped m) then inv v else v)

/-- The S coordinate of a texture cycle before masking (R418, R420, R422, R445). -/
def coordS (t : Tile) (sss : Int) : TexelCoord :=
  let s1 := tcShift sss t.shiftS
  tcClampTile (s1 - unsigned t.sl * 8) (decide (asr s1 3 ≥ unsigned t.sh)) (clampEnS t) (clampDiffS t)

/-- The T coordinate of a texture cycle before masking. -/
def coordT (t : Tile) (sst : Int) : TexelCoord :=
  let t1 := tcShift sst t.shiftT
  tcClampTile (t1 - unsigned t.tl * 8) (decide (asr t1 3 ≥ unsigned t.th)) (clampEnT t) (clampDiffT t)

/-! ## Fetch and decode -/

/-- `tbase` of a tile row, in 64-bit words (R435). -/
def fetchBase (t : Tile) (y : Int) : Int := unsigned t.line * y + unsigned t.tmem

/-- The address bits exchanged on an odd row: `n` is 4 for byte addresses, 2 for halfword indices (R435). -/
def rowXor (y n : Int) : Int := if bitAt y 0 then n else 0

/-- The 4-bit texel of `Byte4`; addresses keep `bits` bits (R435). -/
def nibbleAt (tmem : Cells Byte) (bits : Nat) (t : Tile) (x y : Int) : Int :=
  let p := unsigned (tmem8 tmem (xorBits bits (asr (fetchBase t y * 16 + x) 1) (rowXor y 4)))
  if bitAt x 0 then zext 4 p else asr p 4

/-- `Byte8`; addresses keep `bits` bits (R435). -/
def byteAt (tmem : Cells Byte) (bits : Nat) (t : Tile) (x y : Int) : Int :=
  unsigned (tmem8 tmem (xorBits bits (fetchBase t y * 8 + x) (rowXor y 4)))

/-- `Half16`; indices keep `bits` bits (R435). -/
def halfAt (tmem : Cells Byte) (bits : Nat) (t : Tile) (x y : Int) : Int :=
  unsigned (tmem16 tmem (xorBits bits (fetchBase t y * 4 + x) (rowXor y 2)))

/-- The high halfword of `Pair32`; the low one is `halfAt` with 10 bits (R435). -/
def highHalfAt (tmem : Cells Byte) (t : Tile) (x y : Int) : Int :=
  unsigned (tmem16 tmem (0x400 + xorBits 10 (fetchBase t y * 4 + x) (rowXor y 2)))

/-- `E5(v)`: 5 bits expanded to 8 (R430). -/
def e5 (v : Int) : Int := v * 8 + asr v 2

/-- A 16-bit 5-5-5-1 colour expanded (R430, R441). -/
def rgba5551 (c : Int) : Rgba Int :=
  { r := e5 (bitsAt c 11 5), g := e5 (bitsAt c 6 5), b := e5 (bitsAt c 1 5), a := if bitAt c 0 then 0xff else 0 }

/-- A 16-bit intensity-alpha value (R430, R441). -/
def ia88 (c : Int) : Rgba Int := { r := bitsAt c 8 8, g := bitsAt c 8 8, b := bitsAt c 8 8, a := bitsAt c 0 8 }

/-- The 3-bit intensity of a 4-bit IA texel expanded to 8 bits (R430). -/
def ia4Intensity (nib : Int) : Int :=
  let i := nib - zext 1 nib
  orBits 8 (orBits 8 (i * 16) (i * 2)) (asr i 2)

/-- The row of the decode table for a 16-bit or 32-bit texel of a format with no such texel (R430, "as CI 16-bit"). -/
def oddHalf (c : Int) : Rgba Int :=
  { r := bitsAt c 8 8, g := bitsAt c 0 8, b := bitsAt c 8 8, a := if bitAt c 0 then 0xff else 0 }

/-- A YUV texel (R432). -/
def yuvTexel (tmem : Cells Byte) (t : Tile) (x y : Int) : Rgba Int :=
  let a8 := fetchBase t y * 8 + x
  let luma := unsigned (tmem8 tmem (0x800 + xorBits 11 a8 (rowXor y 4)))
  let c := unsigned (tmem16 tmem (xorBits 10 (asr a8 1) (rowXor y 2)))
  { r := bitsAt c 8 8 - 128, g := bitsAt c 0 8 - 128, b := luma, a := luma }

/-- `FetchTexel(n, x, y)` with `en_tlut` 0: the decode table (R430). Formats 5 to 7 are as format 4. -/
def fetchDirect (tmem : Cells Byte) (t : Tile) (x y : Int) : Rgba Int :=
  match t.format.toNat, t.size.toNat with
  | 0, 0 => Rgba.same (nibbleAt tmem 12 t x y * 17)
  | 0, 1 => Rgba.same (byteAt tmem 12 t x y)
  | 0, 2 => rgba5551 (halfAt tmem 11 t x y)
  | 0, _ =>
    let c0 := halfAt tmem 10 t x y
    let c1 := highHalfAt tmem t x y
    { r := bitsAt c0 8 8, g := bitsAt c0 0 8, b := bitsAt c1 8 8, a := bitsAt c1 0 8 }
  | 1, _ => yuvTexel tmem t x y
  | 2, 0 => Rgba.same (unsigned t.palette * 16 + nibbleAt tmem 12 t x y)
  | 2, 1 => Rgba.same (byteAt tmem 12 t x y)
  | 2, _ => oddHalf (halfAt tmem 11 t x y)
  | 3, 0 =>
    let nib := nibbleAt tmem 12 t x y
    let i := ia4Intensity nib
    { r := i, g := i, b := i, a := if bitAt nib 0 then 0xff else 0 }
  | 3, 1 =>
    let p := byteAt tmem 12 t x y
    let i := asr p 4 * 17
    { r := i, g := i, b := i, a := zext 4 p * 17 }
  | 3, 2 => ia88 (halfAt tmem 11 t x y)
  | 3, _ => oddHalf (halfAt tmem 11 t x y)
  | _, 0 => Rgba.same (nibbleAt tmem 12 t x y * 17)
  | _, 1 => Rgba.same (byteAt tmem 12 t x y)
  | _, _ => oddHalf (halfAt tmem 11 t x y)

/-- The palette index of a texel: by size only, from the low 2 KiB (R440). -/
def paletteIndex (tmem : Cells Byte) (t : Tile) (x y : Int) : Int :=
  match t.size.toNat with
  | 0 => unsigned t.palette * 16 + nibbleAt tmem 11 t x y
  | 1 => byteAt tmem 11 t x y
  | _ => bitsAt (halfAt tmem 10 t x y) 8 8

/-- The palette entry of an index, copy `q` (R440). -/
def paletteEntry (tmem : Cells Byte) (idx q : Int) : Int := unsigned (tmem16 tmem (0x400 + idx * 4 + q))

/-- A texel at integer coordinates, `q` its place in the quad (R430, R440, R441). -/
def fetchTexel (s : State) (t : Tile) (q x y : Int) : Rgba Int :=
  if s.mode.enTlut then
    let entry := paletteEntry s.tmem (paletteIndex s.tmem t x y) q
    if s.mode.tlutType then ia88 entry else rgba5551 entry
  else fetchDirect s.tmem t x y

/-! ## Filter and conversion -/

/-- What the filter of one texture cycle reads besides the texels (R445). -/
structure FilterIn where
  sfrac : Int
  tfrac : Int
  convert : Bool
  mid : Bool
  prev : Rgba Int
deriving DecidableEq, Repr

/-- The filter of one component of a quad (R446, R448). DEDUCED (log 19): R448 reads `prev` in 9 signed bits, as R446 does. -/
def filterOne (f : FilterIn) (t0 t1 t2 t3 : Int) : Int :=
  let pr := sext 9 f.prev.r
  let pg := sext 9 f.prev.g
  let pb := sext 9 f.prev.b
  let upper := bitAt (f.sfrac + f.tfrac) 5
  if f.mid ∧ f.sfrac = 0x10 ∧ f.tfrac = 0x10 then
    if f.convert then pb + asr (pr * (t1 - t0) + pg * (t2 - t0) + (inv t0 + t3) * 64 + 0xc0) 8
    else t0 + asr (0x40 * (t1 - t0) + 0x40 * (t2 - t0) + (inv t0 + t3) * 64 + 0xc0) 8
  else if f.convert then
    if upper then pb + asr (pr * (t2 - t3) + pg * (t1 - t3) + 0x80) 8
    else pb + asr (pr * (t1 - t0) + pg * (t2 - t0) + 0x80) 8
  else if upper then t3 + asr ((0x20 - f.sfrac) * (t2 - t3) + (0x20 - f.tfrac) * (t1 - t3) + 0x10) 5
  else t0 + asr (f.sfrac * (t1 - t0) + f.tfrac * (t2 - t0) + 0x10) 5

/-- `Filter` on all four components (R446, R448). -/
def filterQuad (f : FilterIn) (t0 t1 t2 t3 : Rgba Int) : Rgba Int :=
  { r := filterOne f t0.r t1.r t2.r t3.r, g := filterOne f t0.g t1.g t2.g t3.g, b := filterOne f t0.b t1.b t2.b t3.b,
    a := filterOne f t0.a t1.a t2.a t3.a }

/-- A conversion coefficient as the matrix uses it (R449). -/
def coefficient (k : BitVec 9) : Int := signed k * 2 + 1

/-- `Convert(tx, convert, prev)` (R449). -/
def convertTexel (s : State) (tx : Rgba Int) (convert : Bool) (prev : Rgba Int) : Rgba Int :=
  let c := if convert then prev else tx
  let u := sext 9 c.r
  let v := sext 9 c.g
  { r := c.b + asr (coefficient s.k0 * v + 0x80) 8,
    g := c.b + asr (coefficient s.k1 * u + coefficient s.k2 * v + 0x80) 8,
    b := c.b + asr (coefficient s.k3 * u + 0x80) 8, a := c.b }

/-- `TexCycle(sss, sst, n, cycle, prev)` (R445). -/
def texCycle (s : State) (n : BitVec 3) (cycle1 : Bool) (sss sst : Int) (prev : Rgba Int) : Rgba Int :=
  let t := getTile s n
  let bilerp := if cycle1 then s.mode.biLerp1 else s.mode.biLerp0
  let convert := s.mode.convertOne && cycle1
  let cs := coordS t sss
  let ct := coordT t sst
  let x0 := tcMask cs.int t.maskS t.ms
  let y0 := tcMask ct.int t.maskT t.mt
  let t0 := fetchTexel s t 0 x0 y0
  let out :=
    if s.mode.sampleType then
      let x1 := tcMask (cs.int + 1) t.maskS t.ms
      let y1 := tcMask (ct.int + 1) t.maskT t.mt
      let t3 := fetchTexel s t 3 x1 y1
      if bilerp then
        filterQuad { sfrac := cs.frac, tfrac := ct.frac, convert := convert, mid := s.mode.midTexel, prev := prev } t0
          (fetchTexel s t 1 x1 y0) (fetchTexel s t 2 x0 y1) t3
      else convertTexel s (if bitAt (cs.frac + ct.frac) 5 then t3 else t0) convert prev
    else if bilerp then (if convert then Rgba.same prev.b else t0)
    else convertTexel s t0 convert prev
  mapRgba (zext 9) out

/-! ## Level of detail -/

/-- What the texture stage is given besides the pixel's position (R411). -/
structure TexEnv where
  tile : BitVec 3
  inc : TexPos
  dy : TexPos
deriving DecidableEq, Repr

/-- `TexPoint`'s answer (R452). -/
structure TexSample where
  s : Int
  t : Int
  t1 : BitVec 3
  t2 : BitVec 3
  lf : Int
deriving DecidableEq, Repr

/-- The magnitude of one delta (R452). -/
def lodAbs (next curr : Int) : Int :=
  let d := sext 17 next - sext 17 curr
  if bitAt d 17 then zext 17 (inv d) else d

/-- `LodDelta` (R452). -/
def lodDelta (scurr snext tcurr tnext previous : Int) : Int :=
  let d := max (max (lodAbs snext scurr) (lodAbs tnext tcurr)) previous
  orBits 15 (zext 15 d) (if bitsAt d 14 3 = 0 then 0 else 0x4000)

/-- `LodSignals`' answer (R453). -/
structure LodOut where
  tile : Nat
  magnify : Bool
  distant : Bool
  lf : Int
deriving DecidableEq, Repr

/-- `LodSignals(lodclamp, lod)` (R453, R454). -/
def lodSignals (s : State) (lodclamp : Bool) (lod0 : Int) : LodOut :=
  let lod :=
    if bitAt lod0 14 || lodclamp then 0x7fff
    else if lod0 < unsigned s.minLevel then unsigned s.minLevel else lod0
  let magnify := decide (lod < 32)
  let tile := msb (bitsAt lod 5 8)
  let distant := decide (bitsAt lod 13 2 ≠ 0) || decide (tile ≥ s.maxLevel.toNat)
  let lf0 := zext 8 (asr (lod * 8) tile)
  let lf1 := if !s.mode.sharpenTexEn && !s.mode.detailTexEn then
      (if distant then 0xff else if magnify then 0 else lf0) else lf0
  let lf2 := if s.mode.sharpenTexEn && magnify then lf1 + 0x100 else lf1
  { tile := tile, magnify := magnify, distant := distant, lf := lf2 }

/-- `LodTiles(l_tile, magnify, distant)` (R455). -/
def lodTiles (s : State) (prim : BitVec 3) (o : LodOut) : BitVec 3 × BitVec 3 :=
  if s.mode.texLodEn then
    let l : BitVec 3 := if o.distant then s.maxLevel else BitVec.ofNat 3 o.tile
    if s.mode.detailTexEn then
      (prim + l + (if o.magnify then 0 else 1), prim + l + (if !o.distant && !o.magnify then 2 else 1))
    else
      let t1 := prim + l
      (t1, if o.distant || (!s.mode.sharpenTexEn && o.magnify) then t1 else t1 + 1)
  else (prim, prim + 1)

/-- `TexPoint(s, t, w)` (R452). -/
def texPoint (s : State) (e : TexEnv) (p : TexPos) : TexSample :=
  let div := fun (q : TexPos) => tcDiv s (asr q.s 16) (asr q.t 16) (asr q.w 16)
  let i := div p
  let nx := div (addPos p e.inc)
  let ny := div (addPos p e.dy)
  let clamped := fun (v : Int) => decide (bitsAt v 17 2 ≠ 0)
  let lodclamp := clamped i.1 || clamped i.2 || clamped nx.1 || clamped nx.2 || clamped ny.1 || clamped ny.2
  let lod := if lodclamp then 0 else lodDelta i.1 ny.1 i.2 ny.2 (lodDelta i.1 nx.1 i.2 nx.2 0)
  let o := lodSignals s lodclamp lod
  let tiles := lodTiles s e.tile o
  { s := tcClamp i.1, t := tcClamp i.2, t1 := tiles.1, t2 := tiles.2, lf := o.lf }

/-! ## The stage in the two pipelines -/

/-- What the texture stage hands to the combiner (R411); `next` is `nexttexel_color`, an output in 2-cycle mode only. -/
structure Texels where
  texel0 : Rgba Int
  texel1 : Rgba Int
  next : Option (Rgba Int)
  lf : Int
deriving DecidableEq, Repr

/-- The stage in 1-cycle mode at position `p` with the following position `q` (R456, R458); it computes no `nexttexel_color` (R411;
log 23). -/
def texStage1 (s : State) (e : TexEnv) (p q : TexPos) : Texels :=
  let a := texPoint s e p
  let b := texPoint s e q
  { texel0 := texCycle s a.t1 false a.s a.t (Rgba.same 0), texel1 := texCycle s b.t1 false b.s b.t (Rgba.same 0),
    next := none, lf := a.lf }

/-- The stage in 2-cycle mode at position `p` (R459). The following position is always the next pixel's: DEDUCED (log 25), R458
and R459, as written (93_implementation_defined.md G12), over R62. -/
def texStage2 (s : State) (e : TexEnv) (p : TexPos) : Texels :=
  let a := texPoint s e p
  let b := texPoint s e (addPos p e.inc)
  let texel0 := texCycle s a.t1 false a.s a.t (Rgba.same 0)
  { texel0 := texel0, texel1 := texCycle s a.t2 true a.s a.t texel0,
    next := some (texCycle s b.t1 false b.s b.t (Rgba.same 0)), lf := a.lf }

end Sys2Proof.Machine
end

