-- ==== Sys2Proof/Machine/Render.lean ====
section
/-! DEFINITION. The four pixel pipelines (49_depth_coverage_framebuffer.md R580 to R594) and the dispatch to them
(46_edge_walker.md R395, R396). Everything here reads the state and threads a `Pipe`, the only thing a pipeline writes. -/

namespace Sys2Proof.Machine

/-- What the pixel pipelines write: main memory with its hidden bits, `noise_seed`, and the transient coverage buffer and
working colours. -/
structure Pipe where
  ram : Ram
  seed : BitVec 32
  cvgbuf : Cells Byte
  pixel : PixelRegs
deriving DecidableEq, Repr

/-- What is fixed for one primitive (R590, R592, 46_edge_walker.md R396). -/
structure PrimEnv where
  flip : Bool
  tile : BitVec 3
  spans : Cells Span
  inc : Attr8 Int
  centre : Centre
  tex : TexEnv
  dzpix : Nat
  dzenc : Nat
deriving DecidableEq, Repr

/-- The environment of a primitive from its span constants; with `z_source_sel` the depth terms are 0 and the delta-Z is
`prim_dz` (R592). -/
def primEnv (s : State) (q : Primitive) (c : SpanConsts) (spans : Cells Span) : PrimEnv :=
  let zsel := s.mode.zSourceSel
  let d := mapAttr8 signed c.d
  let inc0 := if q.flip then d else mapAttr8 (fun v => -v) d
  let inc := if zsel then { inc0 with z := 0 } else inc0
  let dzpix := if zsel then s.primDz.toNat else c.dzpix.toNat
  { flip := q.flip, tile := q.tile, spans := spans, inc := inc,
    centre := { cd := mapRgba signed c.cd, dy := { r := signed c.dy.r, g := signed c.dy.g, b := signed c.dy.b, a := signed c.dy.a },
                cdz := if zsel then 0 else signed c.cdz, dzdy := if zsel then 0 else signed c.dy.z },
    tex := { tile := q.tile, inc := { s := inc.s, t := inc.t, w := inc.w },
             dy := { s := signed c.dy.s, t := signed c.dy.t, w := signed c.dy.w } },
    dzpix := dzpix, dzenc := dzCompress (dzpix % 2 ^ 16) }

/-! ## The pixels of a primitive -/

/-- `length` of a row (46_edge_walker.md R396). -/
def rowLength (flip : Bool) (row : Span) : Int :=
  if flip then unsigned row.lx - unsigned row.rx else unsigned row.rx - unsigned row.lx

/-- How many pixels a row has; none if it is not valid (R396). -/
def rowCount (flip : Bool) (row : Span) : Nat := if row.validline then (rowLength flip row + 1).toNat else 0

/-- The column of the `j`-th pixel of a row (R396). -/
def rowColumn (flip : Bool) (row : Span) (j : Nat) : Int :=
  if flip then unsigned row.rx + (j : Int) else unsigned row.rx - (j : Int)

/-- The columns of a row in the order they are visited (R396). -/
def rowColumns (flip : Bool) (row : Span) : List Int := (List.range (rowCount flip row)).map (rowColumn flip row)

/-- The pixels `(x, y)` of the rows from `ystart` to `yend` in the order they are visited (R396). -/
def visited (flip : Bool) (spans : Cells Span) (ystart yend : Int) : List (Int × Int) :=
  (rangeTo ystart yend).flatMap fun i => (rowColumns flip (spanRow spans i)).map fun x => (x, i)

/-! ## Fill mode -/

/-- The pixels of a fill, one after another (R580). -/
def fillPixels (s : State) (ram : Ram) (pixels : List (Int × Int)) : Ram :=
  pixels.foldl (fun ram xy => fbFill s ram (pixelIndex s xy.1 xy.2)) ram

/-- `RenderSpansFill`; none is `raise Crashed` (R580). -/
def renderFill (s : State) (e : PrimEnv) (ystart yend : Int) (pipe : Pipe) : Option Pipe :=
  if s.fbSize.toNat = 0 then none
  else some { pipe with ram := fillPixels s pipe.ram (visited e.flip e.spans ystart yend) }

/-! ## Copy mode -/

/-- `CopyCoord` (R586): the integer S texel, and the masked T texel. -/
def copyCoord (s : State) (n : BitVec 3) (p : TexPos) : Int × Int :=
  let t := getTile s n
  let d := tcDiv s (asr p.s 16) (asr p.t 16) (asr p.w 16)
  let cs := tcShift (tcClamp d.1) t.shiftS - unsigned t.sl * 8
  let ct := tcShift (tcClamp d.2) t.shiftT - unsigned t.tl * 8
  (asr cs 5, tcMask (asr ct 5) t.maskT t.mt)

/-- `CopyTexel(n, x, y)` (R586). DEDUCED (log 13): the raw byte of an 8-bit image is addressed in all of TMEM. -/
def copyTexel (s : State) (n : BitVec 3) (x y : Int) : Half :=
  let t := getTile s n
  let xm := tcMask x t.maskS t.ms
  if s.fbSize.toNat = 2 then
    if s.mode.enTlut then BitVec.ofInt 16 (paletteEntry s.tmem (paletteIndex s.tmem t xm y) 0)
    else BitVec.ofInt 16 (halfAt s.tmem 11 t xm y)
  else BitVec.ofInt 16 (byteAt s.tmem 12 t xm y)

/-- Whether a copy group draws its threshold from `NOISE` (R587). -/
def copyDraws (s : State) : Bool := s.mode.alphaCompareEn && s.fbSize.toNat == 1 && s.mode.ditherAlphaEn

/-- `CopyThreshold`, with the value of the draw (R587). -/
def copyThreshold (s : State) (draw : Int) : Int :=
  if s.mode.alphaCompareEn ∧ s.fbSize.toNat = 1 then
    (if s.mode.ditherAlphaEn then zext 8 draw else unsigned s.blendColor.a)
  else 0

/-- `CopyKeep` (R587). -/
def copyKeep (s : State) (v : Half) (thr : Int) : Bool :=
  if s.mode.alphaCompareEn then
    if s.fbSize.toNat = 2 then v.getLsbD 0 else decide (unsigned v ≥ thr)
  else true

/-- The pixels per 64-bit group (R585). -/
def copyGroup (s : State) : Nat := if s.fbSize.toNat = 2 then 4 else 8

/-- One pixel of a group: its texel is written if the compare keeps it (R585). -/
def copyPixel (s : State) (e : PrimEnv) (x y : Int) (bx by' thr : Int) (ram : Ram) : Ram :=
  let v := copyTexel s e.tile bx by'
  if copyKeep s v thr then copyWrite s ram (pixelIndex s x y) v else ram

/-- Group `g` of row `i`: one coordinate, one threshold, then its pixels (R585). -/
def copyStep (s : State) (e : PrimEnv) (i : Int) (row : Span) (pipe : Pipe) (g : Nat) : Pipe :=
  let base : TexPos :=
    { s := sext 32 (signed row.attrs.s + (g : Int) * e.inc.s), t := sext 32 (signed row.attrs.t + (g : Int) * e.inc.t),
      w := sext 32 (signed row.attrs.w + (g : Int) * e.inc.w) }
  let c := copyCoord s e.tile base
  let draw := rand s pipe.seed
  let thr := copyThreshold s draw.value
  let first := g * copyGroup s
  let ks := List.range (min (copyGroup s) (rowCount e.flip row - first))
  { pipe with
    seed := if copyDraws s then draw.seed else pipe.seed,
    ram := ks.foldl (fun ram (k : Nat) => copyPixel s e (rowColumn e.flip row (first + k)) i (c.1 + (k : Int)) c.2 thr ram) pipe.ram }

/-- One row of a copy (R585). -/
def copyRow (s : State) (e : PrimEnv) (pipe : Pipe) (i : Int) : Pipe :=
  let row := spanRow e.spans i
  let groups := (rowCount e.flip row + copyGroup s - 1) / copyGroup s
  (List.range groups).foldl (copyStep s e i row) pipe

/-- `RenderSpansCopy`; none is `raise Crashed` (R585). -/
def renderCopy (s : State) (e : PrimEnv) (ystart yend : Int) (pipe : Pipe) : Option Pipe :=
  if s.fbSize.toNat = 0 then none
  else if s.fbSize.toNat = 3 then (if s.cfg.copy32Lockup then none else some pipe)
  else some ((rangeTo ystart yend).foldl (copyRow s e) pipe)

/-! ## The 1-cycle and 2-cycle pipelines -/

/-- The attributes of a row after `SkipScissored` (R591); with `z_source_sel` the depth is `prim_z` (R592). -/
def rowAttrs (s : State) (e : PrimEnv) (row : Span) : Attr8 Int :=
  let x0 := mapAttr8 signed row.attrs
  let x := if s.mode.zSourceSel then { x0 with z := unsigned s.primZ } else x0
  let diff := if e.flip then unsigned row.rx - signed row.unscrx else signed row.unscrx - unsigned row.rx
  if diff = 0 then x else zipAttr8 (fun v inc => sext 32 (v + inc * zext 12 diff)) x e.inc

/-- The attributes of the `j`-th pixel of a row: the increment added `j` times in 32-bit wrapping additions (R590). DEDUCED
(log 15): one multiplication, narrowed once. -/
def pixelAttrs (e : PrimEnv) (start : Attr8 Int) (j : Nat) : Attr8 Int :=
  zipAttr8 (fun v inc => sext 32 (v + (j : Int) * inc)) start e.inc

/-- The texture position of attributes. -/
def texPos (x : Attr8 Int) : TexPos := { s := x.s, t := x.t, w := x.w }

/-- `NextPos` in 1-cycle mode for pixel `j` of row `i` (47_texture.md R458). -/
def nextPos (e : PrimEnv) (i : Int) (row : Span) (j : Nat) (p : TexPos) : TexPos :=
  let below := spanRow e.spans (i + 1)
  if (j : Int) = rowLength e.flip row ∧ rowLength e.flip row > 7 ∧ below.validline = true then
    { s := signed below.attrs.s, t := signed below.attrs.t, w := signed below.attrs.w }
  else addPos p e.tex.inc

/-- One pixel: its place, its coverage mask, its attributes and the following texture position. -/
structure PixelAt where
  x : Int
  y : Int
  mask : Byte
  attrs : Attr8 Int
  next : TexPos
deriving DecidableEq, Repr

/-- Everything computed for a pixel before any memory access (R590): coverage, texels, shade and depth corrected, noise,
dither, combiner. -/
structure PixelWork where
  cover : Cover
  texels : Texels
  shade : Rgba Int
  sz : Int
  noise : Int
  dither : DitherOut
  comb : CombineOut
deriving DecidableEq, Repr

/-- The stages of a pixel before its memory accesses (R590, R594). -/
def pixelWork (s : State) (two : Bool) (e : PrimEnv) (px : PixelAt) (seed : BitVec 32) : PixelWork :=
  let cover := coverOf px.mask
  let p := texPos px.attrs
  let texels := if two then texStage2 s e.tex p else texStage1 s e.tex p px.next
  let shade := correctShade e.centre cover px.attrs
  let draw := rand s seed
  let noise := noiseOf draw.value
  let dither := ditherOf s draw.seed px.x px.y noise
  let i : CombineIn :=
    { combined := Rgba.same 0, texel0 := texels.texel0, texel1 := texels.texel1, shade := shade, lf := texels.lf,
      noise := noise }
  let comb :=
    match texels.next with
    | some next => combiner2 s i next dither.adith cover.cvg
    | none => combiner1 s i dither.adith cover.cvg
  { cover := cover, texels := texels, shade := shade, sz := correctDepth e.centre cover px.attrs.z, noise := noise,
    dither := dither, comb := comb }

/-- The depth compare's input of a pixel (R543). -/
def depthIn (s : State) (e : PrimEnv) (px : PixelAt) (w : PixelWork) (fb : FbPixel) : DepthIn :=
  { zi := zHalf s (pixelIndex s px.x px.y), sz := w.sz, dzpix := e.dzpix, dzenc := e.dzenc, cvg := w.comb.cvg,
    memcvg := fb.memcvg }

/-- The blender's input of a pixel (48_combiner_blender.md R510, R511). -/
def blendIn (w : PixelWork) (fb : FbPixel) (d : DepthOut) : BlendIn :=
  { pixel := w.comb.pixel, memory := fb.color, shadeA := w.comb.shadeA, blshifta := d.flags.blshifta,
    blshiftb := d.flags.blshiftb }

/-- The writes of a pixel that is drawn: colour, then depth (R590). -/
def drawPixel (s : State) (two : Bool) (e : PrimEnv) (px : PixelAt) (w : PixelWork) (fb : FbPixel) (d : DepthOut) (ram : Ram) :
    Ram :=
  let p := pixelIndex s px.x px.y
  let i := blendIn w fb d
  let out := if two then blender2 s i d.flags w.dither.cdith else blender1 s i d.flags w.dither.cdith
  let ram1 := fbWrite s ram p out (finalCvg s d.flags.blendEn d.cvg fb.memcvg)
  if s.mode.zUpdateEn then zStore s.cfg ram1 (zHalf s p) w.sz e.dzenc else ram1

/-- What the blender computes of a pixel besides its colour; `draws` says that the blender does not drop it (R590, R594,
48_combiner_blender.md R516, R517). -/
def blendRegs (s : State) (two draws : Bool) (i : BlendIn) (f : DepthFlags) : BlendRegs :=
  if !draws then droppedRegs else if two then blender2Regs s i f else blender1Regs s i f

/-- A working colour that may not be computed by a pixel; if not, a free value. DESIGN CHOICE (log 23). -/
def colorOrFree (k : Nat) (seed : BitVec 32) (c : Option (Rgba Int)) : Rgba (BitVec 9) :=
  match c with
  | some c => mapRgba (BitVec.ofInt 9) c
  | none =>
    { r := Config.uncomputed k seed, g := Config.uncomputed (k + 1) seed, b := Config.uncomputed (k + 2) seed,
      a := Config.uncomputed (k + 3) seed }

/-- An 8-bit signal that may not be computed by a pixel; if not, a free value. DESIGN CHOICE (log 23). -/
def signalOrFree (k : Nat) (seed : BitVec 32) (v : Option Int) : BitVec 8 :=
  match v with
  | some v => BitVec.ofInt 8 v
  | none => (Config.uncomputed k seed).setWidth 8

/-- The working colours and signals after a pixel (10_state.md R65, R66), with the rotation of the texels in 2-cycle mode
(48_combiner_blender.md R476); nothing reads them. DESIGN CHOICE (log 23): what no stage of the pixel computes is a free value:
`nexttexel_color` in 1-cycle mode, `blended_color` and `inv_pixel_alpha` where the blender does not compute them, `keyalpha`
with `key_en` 0; and `cdith` and `adith`, of which R66 gives no width, have 9 bits. -/
def pixelRegs (s : State) (two draws : Bool) (w : PixelWork) (fb : FbPixel) (d : DepthOut) : PixelRegs :=
  let c9 := fun (c : Rgba Int) => mapRgba (BitVec.ofInt 9) c
  let b := blendRegs s two draws (blendIn w fb d) d.flags
  let seed := w.dither.seed
  { combined := c9 w.comb.combined, texel0 := c9 (if two then w.texels.texel1 else w.texels.texel0),
    texel1 := if two then colorOrFree 0 seed w.texels.next else c9 w.texels.texel1,
    nexttexel := colorOrFree 0 seed w.texels.next, shade := c9 { w.shade with a := w.comb.shadeA }, pixel := c9 w.comb.pixel,
    blended := colorOrFree 4 seed (b.blended.map fun c => { r := c.r, g := c.g, b := c.b, a := w.comb.pixel.a }),
    memory := c9 fb.color, lodFrac := BitVec.ofInt 9 w.texels.lf, keyalpha := signalOrFree 8 seed w.comb.keyalpha,
    invPixelAlpha := signalOrFree 9 seed b.invPixelAlpha, blshifta := BitVec.ofNat 3 d.flags.blshifta,
    blshiftb := BitVec.ofNat 3 d.flags.blshiftb, blendEn := d.flags.blendEn, prewrap := d.flags.prewrap,
    cvbit := w.cover.cvbit, offx := BitVec.ofNat 2 w.cover.offx, offy := BitVec.ofNat 2 w.cover.offy,
    noise := BitVec.ofInt 9 w.noise, cdith := BitVec.ofInt 9 w.dither.cdith, adith := BitVec.ofInt 9 w.dither.adith,
    cvg := BitVec.ofInt 4 d.cvg, memcvg := BitVec.ofInt 3 fb.memcvg }

/-- One pixel of the 1-cycle (`two` false) or 2-cycle pipeline, in the order of R590 and R594. -/
def renderPixel (s : State) (two : Bool) (e : PrimEnv) (pipe : Pipe) (px : PixelAt) : Pipe :=
  let w := pixelWork s two e px pipe.seed
  let fb := fbRead s pipe.ram (pixelIndex s px.x px.y)
  let d := zCompare s pipe.ram (depthIn s e px w fb)
  let draw := rand s w.dither.seed
  let draws := d.pass && alphaPasses s draw.value w.comb.pixel.a && coverDraws s d.cvg w.cover.cvbit
  { pipe with
    seed := if d.pass && comparesNoise s then draw.seed else w.dither.seed,
    pixel := pixelRegs s two draws w fb d,
    ram := if draws then drawPixel s two e px w fb d pipe.ram else pipe.ram }

/-- The `j`-th pixel of row `i` (R590). -/
def pixelAt (e : PrimEnv) (i : Int) (row : Span) (start : Attr8 Int) (cvgbuf : Cells Byte) (j : Nat) : PixelAt :=
  let x := rowColumn e.flip row j
  let attrs := pixelAttrs e start j
  { x := x, y := i, mask := Cells.read 0 cvgbuf x.toNat, attrs := attrs, next := nextPos e i row j (texPos attrs) }

/-- One row of the 1-cycle or 2-cycle pipeline (R590). -/
def renderRow (s : State) (two : Bool) (e : PrimEnv) (pipe : Pipe) (i : Int) : Pipe :=
  let row := spanRow e.spans i
  if row.validline then
    let cvgbuf := computeCvg e.flip row pipe.cvgbuf
    let start := rowAttrs s e row
    ((List.range (rowCount e.flip row)).map (pixelAt e i row start cvgbuf)).foldl (renderPixel s two e)
      { pipe with cvgbuf := cvgbuf }
  else pipe

/-- `RenderSpans1Cycle` and `RenderSpans2Cycle` (R590, R594). -/
def renderCycle (s : State) (two : Bool) (e : PrimEnv) (ystart yend : Int) (pipe : Pipe) : Pipe :=
  (rangeTo ystart yend).foldl (renderRow s two e) pipe

/-! ## Dispatch -/

/-- The pipeline variant of the cycle type (46_edge_walker.md R395); none is `raise Crashed`. -/
def renderSpans (s : State) (e : PrimEnv) (ystart yend : Int) (pipe : Pipe) : Option Pipe :=
  match s.mode.cycleType with
  | .one => some (renderCycle s false e ystart yend pipe)
  | .two => some (renderCycle s true e ystart yend pipe)
  | .copy => renderCopy s e ystart yend pipe
  | .fill => renderFill s e ystart yend pipe

/-- The first row handed to the pipeline (R395). -/
def yStart (s : State) (q : Primitive) : Int := asr (yhLimit q.yh (unsigned s.clipYh)) 2

/-- The last row handed to the pipeline (R395). -/
def yEnd (s : State) (q : Primitive) : Int := asr (ylLimit q.yl (unsigned s.clipYl)) 2

/-- What a pipeline starts from. -/
def pipeStart (s : State) : Pipe :=
  { ram := s.ram, seed := s.noiseSeed, cvgbuf := s.scratch.cvgbuf, pixel := s.scratch.pixel }

/-- The state after the edge walk and before any pixel: `max_level`, the block, the span constants and the span buffer
(46_edge_walker.md R362, R398). -/
def afterWalk (s : State) (ew : List Word) : State :=
  let q := decodeEw ew
  { s with maxLevel := q.level,
           scratch := { s.scratch with ew := ew, consts := spanConsts q, spans := walkSpans s q } }

/-- The pipeline of the primitive in block `ew`, run on the state after the walk. -/
def renderBlock (s : State) (ew : List Word) : Option Pipe :=
  let q := decodeEw ew
  let s1 := afterWalk s ew
  renderSpans s1 (primEnv s1 q (spanConsts q) (walkSpans s q)) (yStart s q) (yEnd s q) (pipeStart s1)

/-- `EdgeWalk()` with its dispatch: what every drawing command does with its block (46_edge_walker.md R360, R395;
60_exceptions.md R601, R602). -/
def edgeWalk (s : State) (ew : List Word) : State :=
  let s1 := afterWalk s ew
  match renderBlock s ew with
  | some pipe =>
    { s1 with ram := pipe.ram, noiseSeed := pipe.seed,
              scratch := { s1.scratch with cvgbuf := pipe.cvgbuf, pixel := pipe.pixel } }
  | none => raiseCrashed s1

end Sys2Proof.Machine
end

