-- ==== Sys2Proof/Machine/Draw.lean ====
section
/-! DEFINITION. The drawing commands: each assembles its block and walks it (45_primitive_commands.md R320 to R338). -/

namespace Sys2Proof.Machine

/-- TRI_FILL (R325). -/
def execTriFill (e : TriEdges) (s : State) : Host.Outcome State Fault Refusal :=
  .next (edgeWalk s (assembleTri 0x08 e none none none))

/-- TRI_FILL_Z (R326). -/
def execTriFillZ (e : TriEdges) (z : ZBlock) (s : State) : Host.Outcome State Fault Refusal :=
  .next (edgeWalk s (assembleTri 0x09 e none none (some z)))

/-- TRI_TEX (R327). -/
def execTriTex (e : TriEdges) (x : TexBlock) (s : State) : Host.Outcome State Fault Refusal :=
  .next (edgeWalk s (assembleTri 0x0A e none (some x) none))

/-- TRI_TEX_Z (R328). -/
def execTriTexZ (e : TriEdges) (x : TexBlock) (z : ZBlock) (s : State) : Host.Outcome State Fault Refusal :=
  .next (edgeWalk s (assembleTri 0x0B e none (some x) (some z)))

/-- TRI_SHADE (R329). -/
def execTriShade (e : TriEdges) (c : ShadeBlock) (s : State) : Host.Outcome State Fault Refusal :=
  .next (edgeWalk s (assembleTri 0x0C e (some c) none none))

/-- TRI_SHADE_Z (R330). -/
def execTriShadeZ (e : TriEdges) (c : ShadeBlock) (z : ZBlock) (s : State) : Host.Outcome State Fault Refusal :=
  .next (edgeWalk s (assembleTri 0x0D e (some c) none (some z)))

/-- TRI_SHADE_TEX (R331). -/
def execTriShadeTex (e : TriEdges) (c : ShadeBlock) (x : TexBlock) (s : State) : Host.Outcome State Fault Refusal :=
  .next (edgeWalk s (assembleTri 0x0E e (some c) (some x) none))

/-- TRI_SHADE_TEX_Z (R332). -/
def execTriShadeTexZ (e : TriEdges) (c : ShadeBlock) (x : TexBlock) (z : ZBlock) (s : State) : Host.Outcome State Fault Refusal :=
  .next (edgeWalk s (assembleTri 0x0F e (some c) (some x) (some z)))

/-- TEXTURE_RECTANGLE (R335). -/
def execTextureRectangle (o : TexRectOps) (s : State) : Host.Outcome State Fault Refusal :=
  .next (edgeWalk s (assembleRect 0x24 s.mode.cycleType o.tile o.rect (some (texRectBlock o))))

/-- TEXTURE_RECTANGLE_FLIP (R336). -/
def execTextureRectangleFlip (o : TexRectOps) (s : State) : Host.Outcome State Fault Refusal :=
  .next (edgeWalk s (assembleRect 0x25 s.mode.cycleType o.tile o.rect (some (texRectFlipBlock o))))

/-- FILL_RECTANGLE (R338). -/
def execFillRectangle (o : RectOps) (s : State) : Host.Outcome State Fault Refusal :=
  .next (edgeWalk s (assembleRect 0x36 s.mode.cycleType 0 o none))

end Sys2Proof.Machine
end

