-- ==== Sys2Proof/Machine/Load.lean ====
section
/-! DEFINITION. The three texture load commands: the extent write, the load spans, the load loop, the TMEM index and store
functions (44_load_commands.md). -/

namespace Sys2Proof.Machine

/-- The extent write, first act of every load and the whole of SET_TILE_SIZE (R291, 43_image_tile_commands.md R270). -/
def setExtent (s : State) (o : TileSizeOps) : State :=
  setTile s o.tile { getTile s o.tile with sl := o.sl, tl := o.tl, sh := o.sh, th := o.th }

/-- One load span and its increments (R293, R294): `lx`, `unscrx` as unsigned 12-bit numbers (DEDUCED, log 14), `s`, `t` and
their steps as 32-bit registers. -/
structure LoadSpan where
  row : Int
  lx : Int
  rx : Int
  unscrx : Int
  s : Int
  t : Int
deriving DecidableEq, Repr

/-- The steps of a load and how it reads its source (R293, R294, R296). -/
structure LoadKind where
  ds : Int
  dt : Int
  quad : Bool
  tlut : Bool
deriving DecidableEq, Repr

/-- `LoadSetupRect`: the spans of LOAD_TILE and LOAD_TLUT, one per texel row (R293). -/
def rectSpans (o : TileSizeOps) : List LoadSpan :=
  let sl := unsigned o.sl
  let tl := unsigned o.tl
  let sh := unsigned o.sh
  let th := unsigned o.th
  let anyValid := decide (tl < clearLow th 2 + 3)
  (rangeTo (asr tl 2) (asr th 2)).map fun j =>
    { row := j, lx := if anyValid then asr sh 2 else 0, rx := if anyValid then asr sl 2 else 0xfff, unscrx := asr sl 2,
      s := sext 32 (sl * 8 * 2 ^ 16), t := sext 32 ((tl * 8 + 0x20 * (j - asr tl 2)) * 2 ^ 16) }

/-- The one span of LOAD_BLOCK (R294). -/
def blockSpans (o : TileSizeOps) : List LoadSpan :=
  let sl := unsigned o.sl
  [{ row := zext 10 (unsigned o.tl), lx := unsigned o.sh, rx := sl, unscrx := sl, s := sext 32 (sl * 8 * 2 ^ 16),
     t := sext 32 (unsigned o.tl * 8 * 2 ^ 16) }]

/-- The steps of LOAD_TILE and LOAD_TLUT (R293). -/
def rectKind (s : State) (quad tlut : Bool) : LoadKind :=
  { ds := asr 0x200 s.tiSize.toNat * 2 ^ 16, dt := 0, quad := quad, tlut := tlut }

/-- The steps of LOAD_BLOCK (R294). -/
def blockKind (s : State) (o : TileSizeOps) : LoadKind :=
  { ds := asr 0x80 s.tiSize.toNat * 2 ^ 16, dt := unsigned o.th * 2 ^ 8, quad := true, tlut := false }

/-- Bytes of source per 64-bit unit, `tiadv` (R297). -/
def unitBytes (s : State) (tlut : Bool) : Int := if s.tiSize.toNat = 2 ∧ tlut then 2 else 8

/-- Texels of source per 64-bit unit, `spanadv` (R297). -/
def unitTexels (s : State) (tlut : Bool) : Nat :=
  if s.tiSize.toNat = 1 then 8 else if s.tiSize.toNat = 2 then (if tlut then 1 else 4) else 2

/-- The store class of a tile (R297). -/
def loadClass (t : Tile) : Nat :=
  if t.format.toNat = 1 then 0 else if t.format.toNat = 0 ∧ t.size.toNat = 3 then 1 else 2

/-- `B(a)`: one source byte, bounds-checked with the word that holds it (R298). -/
def sourceByte (s : State) (a : Int) : Byte :=
  (rd32 s.cfg s.ram (asr a 2)).extractLsb' ((3 - (zext 2 a).toNat) * 8) 8

/-- `LoadQword(p, tlut)` (R298). -/
def loadQword (s : State) (p : Int) (tlut : Bool) : BitVec 64 :=
  let b := fun (k : Int) => sourceByte s (p + k)
  if tlut ∧ zext 1 p = 0 then
    let h : Half := b 0 ++ b 1
    h ++ h ++ h ++ h
  else b 0 ++ b 1 ++ b 2 ++ b 3 ++ b 4 ++ b 5 ++ b 6 ++ b 7

/-- What the load index function answers (R300). -/
structure LoadIndex where
  idx : Quad Int
  bit3fl : Bool
  hibit : Bool
deriving DecidableEq, Repr

/-- The halfword of a row before wrapping, `sh16` (R300). -/
def loadHalf (t : Tile) (ls : Int) : Int :=
  if t.size.toNat = 1 ∨ t.format.toNat = 1 then asr ls 1 else if t.size.toNat ≥ 2 then ls else asr ls 2

/-- `LoadIdx(n, ls, lt)` (R300). -/
def loadIdx (t : Tile) (ls lt : Int) : LoadIndex :=
  let tbase := zext 9 (unsigned t.line * lt) + unsigned t.tmem
  let sh16 := zext 11 (loadHalf t ls)
  let a := andBits 11 (tbase * 4 + sh16) 0x7fd
  let c := fun (m : Int) => xorBits 11 (a + m) (if bitAt lt 0 then 2 else 0)
  let pick := fun (k : Int) => if zext 2 (c 0) = k then c 0 else if zext 2 (c 1) = k then c 1
    else if zext 2 (c 2) = k then c 2 else c 3
  { idx := { q0 := pick 0, q1 := pick 1, q2 := pick 2, q3 := pick 3 }, bit3fl := Bool.xor (bitAt sh16 1) (bitAt lt 0),
    hibit := bitAt a 10 }

/-- `TmemStore` of a unit `q` (R301). -/
def tmemStore (tmem : Cells Byte) (t : Tile) (ls lt : Int) (q : BitVec 64) : Cells Byte :=
  let i := loadIdx t ls lt
  let h := fun (k : Nat) => (q.extractLsb' (16 * k) 16 : Half)
  let b := fun (k : Nat) => (q.extractLsb' (8 * k) 8 : Byte)
  let high := fun (v : Int) => orBits 11 v 0x400
  if loadClass t = 2 then
    let place := fun (v : Int) => if i.hibit then high v else v
    let w := if bitAt lt 0 then (h 1, h 0, h 3, h 2) else (h 3, h 2, h 1, h 0)
    setTmem16 (setTmem16 (setTmem16 (setTmem16 tmem (place i.idx.q0) w.1) (place i.idx.q1) w.2.1) (place i.idx.q2) w.2.2.1)
      (place i.idx.q3) w.2.2.2
  else
    let uv := if i.bit3fl then (i.idx.q2, i.idx.q3) else (i.idx.q0, i.idx.q1)
    let w : Half × Half × Half × Half :=
      if loadClass t = 1 then (h 3, h 1, h 2, h 0) else (b 7 ++ b 5, b 3 ++ b 1, b 6 ++ b 4, b 2 ++ b 0)
    setTmem16 (setTmem16 (setTmem16 (setTmem16 tmem uv.1 w.1) uv.2 w.2.1) (high uv.1) w.2.2.1) (high uv.2) w.2.2.2

/-- The registers of the load loop (R297). -/
structure LoadRegs where
  s : Int
  t : Int
  tiptr : Int
  tmem : Cells Byte
deriving DecidableEq, Repr

/-- One unit of the load loop for tile `t` (R297). -/
def loadUnit (s : State) (t : Tile) (k : LoadKind) (r : LoadRegs) : LoadRegs :=
  let sh := if k.quad then 3 else 5
  let ls := asr (sext 16 (asr r.s 16) - unsigned t.sl * 8) sh
  let lt := asr (sext 16 (asr r.t 16) - unsigned t.tl * 8) sh
  { s := clearLow (sext 32 (r.s + k.ds)) 5, t := clearLow (sext 32 (r.t + k.dt)) 5, tiptr := r.tiptr + unitBytes s k.tlut,
    tmem := tmemStore r.tmem t ls lt (loadQword s r.tiptr k.tlut) }

/-- `n` units of the load loop, one after another. -/
def loadUnits (s : State) (t : Tile) (k : LoadKind) (n : Nat) (r : LoadRegs) : LoadRegs :=
  match n with
  | 0 => r
  | n + 1 => loadUnits s t k n (loadUnit s t k r)

/-- The number of units of a span: the row's length modulo 4096, rounded up to whole units (R297, R302). -/
def spanUnits (s : State) (k : LoadKind) (p : LoadSpan) : Nat :=
  let length := (zext 12 (p.lx - p.unscrx + 1)).toNat
  (length + unitTexels s k.tlut - 1) / unitTexels s k.tlut

/-- The byte address of the first unit of a span (R297), which begins at texel `ti_width * row + SL` (R294). DEDUCED (log 14):
`unscrx` is unsigned here, against R62. -/
def spanSource (s : State) (p : LoadSpan) : Int :=
  unsigned s.tiAddress + asr ((unsigned s.tiWidth * p.row + p.unscrx) * 2 ^ s.tiSize.toNat) 1

/-- One span of the load loop (R297). -/
def loadSpan (s : State) (t : Tile) (k : LoadKind) (tmem : Cells Byte) (p : LoadSpan) : Cells Byte :=
  (loadUnits s t k (spanUnits s k p) { s := p.s, t := p.t, tiptr := spanSource s p, tmem := tmem }).tmem

/-- The load spans as they stand in the span buffer (R293, R294). -/
def storeSpans (spans : Cells Span) (ps : List LoadSpan) : Cells Span :=
  ps.foldl (fun m p =>
    let old := spanOf m p.row
    Cells.write Span.zero m p.row.toNat
      { old with lx := BitVec.ofInt 12 p.lx, rx := BitVec.ofInt 12 p.rx, unscrx := BitVec.ofInt 12 p.unscrx,
                 attrs := { old.attrs with s := BitVec.ofInt 32 p.s, t := BitVec.ofInt 32 p.t } }) spans
where
  spanOf (m : Cells Span) (row : Int) : Span := Cells.read Span.zero m row.toNat

/-- The load of spans `ps` into tile `n`, after the extent write (R297, R601, R602). -/
def loadSpans (s : State) (n : BitVec 3) (k : LoadKind) (ps : List LoadSpan) : State :=
  let s1 := { s with scratch := { s.scratch with spans := storeSpans s.scratch.spans ps } }
  if s.tiSize.toNat = 0 then (if s.cfg.loadLockup then raiseCrashed s1 else s1)
  else { s1 with tmem := ps.foldl (loadSpan s (getTile s n) k) s.tmem }

/-- LOAD_TILE (R292). -/
def execLoadTile (o : TileSizeOps) (s : State) : Host.Outcome State Fault Refusal :=
  let s1 := setExtent s o
  .next (loadSpans s1 o.tile (rectKind s1 false false) (rectSpans o))

/-- LOAD_BLOCK (R294). -/
def execLoadBlock (o : TileSizeOps) (s : State) : Host.Outcome State Fault Refusal :=
  let s1 := setExtent s o
  .next (loadSpans s1 o.tile (blockKind s1 o) (blockSpans o))

/-- LOAD_TLUT (R296). -/
def execLoadTlut (o : TileSizeOps) (s : State) : Host.Outcome State Fault Refusal :=
  let s1 := setExtent s o
  if o.th.toNat / 4 > o.tl.toNat / 4 then
    let s2 := { s1 with scratch := { s1.scratch with spans := storeSpans s1.scratch.spans (rectSpans o) } }
    .next (if s1.cfg.loadLockup then raiseCrashed s2 else s2)
  else .next (loadSpans s1 o.tile (rectKind s1 true true) (rectSpans o))

end Sys2Proof.Machine
end

