-- ==== Sys2Proof/Machine/ImageCommands.lean ====
section
/-! DEFINITION. The image and tile commands (43_image_tile_commands.md R260 to R271). -/

namespace Sys2Proof.Machine

/-- An image width as held: the written 10-bit value plus 1 (10_state.md R38). -/
def heldWidth (w : BitVec 10) : BitVec 11 := w.setWidth 11 + 1

/-- SET_COLOR_IMAGE (R261). -/
def execSetColorImage (o : ImageOps) (s : State) : Host.Outcome State Fault Refusal :=
  .next { s with fbFormat := o.format, fbSize := o.size, fbWidth := heldWidth o.width,
                 fbAddress := o.address }

/-- SET_TEXTURE_IMAGE (R262). -/
def execSetTextureImage (o : ImageOps) (s : State) : Host.Outcome State Fault Refusal :=
  .next { s with tiFormat := o.format, tiSize := o.size, tiWidth := heldWidth o.width,
                 tiAddress := o.address }

/-- SET_Z_IMAGE (R264). -/
def execSetZImage (address : BitVec 24) (s : State) : Host.Outcome State Fault Refusal :=
  .next { s with zbAddress := address }

/-- SET_TILE: thirteen fields of one tile; its extent stays (R267). -/
def execSetTile (o : TileOps) (s : State) : Host.Outcome State Fault Refusal :=
  .next (setTile s o.tile
    { getTile s o.tile with format := o.format, size := o.size, line := o.line, tmem := o.tmem, palette := o.palette,
                            ct := o.ct, mt := o.mt, maskT := o.maskT, shiftT := o.shiftT, cs := o.cs, ms := o.ms,
                            maskS := o.maskS, shiftS := o.shiftS })

/-- SET_TILE_SIZE (R270). -/
def execSetTileSize (o : TileSizeOps) (s : State) : Host.Outcome State Fault Refusal :=
  .next (setExtent s o)

end Sys2Proof.Machine
end

