-- ==== Sys2Proof/Machine/ModeCommands.lean ====
section
/-! DEFINITION. The mode-setting commands: each copies its operands into the registers it names (42_mode_commands.md R220 to
R245). -/

namespace Sys2Proof.Machine

/-- SET_KEY_GB: the green and blue key registers (R235). -/
def execSetKeyGb (o : KeyGbOps) (s : State) : Host.Outcome State Fault Refusal :=
  .next { s with keyWidth := { s.keyWidth with g := o.widthG, b := o.widthB },
                 keyCenter := { s.keyCenter with g := o.centerG, b := o.centerB },
                 keyScale := { s.keyScale with g := o.scaleG, b := o.scaleB } }

/-- SET_KEY_R: the red key registers (R236). -/
def execSetKeyR (o : KeyROps) (s : State) : Host.Outcome State Fault Refusal :=
  .next { s with keyWidth := { s.keyWidth with r := o.widthR }, keyCenter := { s.keyCenter with r := o.centerR },
                 keyScale := { s.keyScale with r := o.scaleR } }

/-- SET_CONVERT (R238). -/
def execSetConvert (o : ConvertOps) (s : State) : Host.Outcome State Fault Refusal :=
  .next { s with k0 := o.k0, k1 := o.k1, k2 := o.k2, k3 := o.k3, k4 := o.k4, k5 := o.k5 }

/-- SET_SCISSOR (R228). -/
def execSetScissor (o : ScissorOps) (s : State) : Host.Outcome State Fault Refusal :=
  .next { s with clipXh := o.xh, clipYh := o.yh, clipXl := o.xl, clipYl := o.yl, scfield := o.field,
                 sckeepodd := o.odd }

/-- SET_PRIM_DEPTH: the 15-bit Z stays at bits 30 to 16 (R231). -/
def execSetPrimDepth (o : PrimDepthOps) (s : State) : Host.Outcome State Fault Refusal :=
  .next { s with primZ := 0#1 ++ o.z ++ 0#16, primDz := o.dz }

/-- SET_OTHER_MODES (R221). -/
def execSetOtherModes (m : OtherModes) (s : State) : Host.Outcome State Fault Refusal :=
  .next { s with mode := m }

/-- SET_FILL_COLOR (R241). -/
def execSetFillColor (color : BitVec 32) (s : State) : Host.Outcome State Fault Refusal :=
  .next { s with fillColor := color }

/-- SET_FOG_COLOR (R242). -/
def execSetFogColor (color : Rgba (BitVec 8)) (s : State) : Host.Outcome State Fault Refusal :=
  .next { s with fogColor := color }

/-- SET_BLEND_COLOR (R243). -/
def execSetBlendColor (color : Rgba (BitVec 8)) (s : State) : Host.Outcome State Fault Refusal :=
  .next { s with blendColor := color }

/-- SET_PRIM_COLOR (R244). -/
def execSetPrimColor (o : PrimColorOps) (s : State) : Host.Outcome State Fault Refusal :=
  .next { s with minLevel := o.minLevel, primLodFrac := o.lodFrac, primColor := o.color }

/-- SET_ENV_COLOR (R245). -/
def execSetEnvColor (color : Rgba (BitVec 8)) (s : State) : Host.Outcome State Fault Refusal :=
  .next { s with envColor := color }

/-- SET_COMBINE (R225). -/
def execSetCombine (c : Combine) (s : State) : Host.Outcome State Fault Refusal :=
  .next { s with combine := c }

end Sys2Proof.Machine
end

