-- ==== Sys2Proof/Machine/SyncCommands.lean ====
section
/-! DEFINITION. NOP, the reserved opcodes and the synchronisation commands (40_command_processor.md R175, R176,
41_sync_commands.md R200 to R204). -/

namespace Sys2Proof.Machine

/-- NOP: nothing (R175). -/
def execNop (s : State) : Host.Outcome State Fault Refusal := .next s

/-- RESERVED_01: nothing; the diagnostic is not state (R176, log 11). -/
def execReserved01 (s : State) : Host.Outcome State Fault Refusal := .next s

/-- RESERVED_02: nothing; the diagnostic is not state (R176, log 11). -/
def execReserved02 (s : State) : Host.Outcome State Fault Refusal := .next s

/-- RESERVED_03: nothing; the diagnostic is not state (R176, log 11). -/
def execReserved03 (s : State) : Host.Outcome State Fault Refusal := .next s

/-- RESERVED_04: nothing; the diagnostic is not state (R176, log 11). -/
def execReserved04 (s : State) : Host.Outcome State Fault Refusal := .next s

/-- RESERVED_05: nothing; the diagnostic is not state (R176, log 11). -/
def execReserved05 (s : State) : Host.Outcome State Fault Refusal := .next s

/-- RESERVED_06: nothing; the diagnostic is not state (R176, log 11). -/
def execReserved06 (s : State) : Host.Outcome State Fault Refusal := .next s

/-- RESERVED_07: nothing; the diagnostic is not state (R176, log 11). -/
def execReserved07 (s : State) : Host.Outcome State Fault Refusal := .next s

/-- RESERVED_10: nothing; the diagnostic is not state (R176, log 11). -/
def execReserved10 (s : State) : Host.Outcome State Fault Refusal := .next s

/-- RESERVED_11: nothing; the diagnostic is not state (R176, log 11). -/
def execReserved11 (s : State) : Host.Outcome State Fault Refusal := .next s

/-- RESERVED_12: nothing; the diagnostic is not state (R176, log 11). -/
def execReserved12 (s : State) : Host.Outcome State Fault Refusal := .next s

/-- RESERVED_13: nothing; the diagnostic is not state (R176, log 11). -/
def execReserved13 (s : State) : Host.Outcome State Fault Refusal := .next s

/-- RESERVED_14: nothing; the diagnostic is not state (R176, log 11). -/
def execReserved14 (s : State) : Host.Outcome State Fault Refusal := .next s

/-- RESERVED_15: nothing; the diagnostic is not state (R176, log 11). -/
def execReserved15 (s : State) : Host.Outcome State Fault Refusal := .next s

/-- RESERVED_16: nothing; the diagnostic is not state (R176, log 11). -/
def execReserved16 (s : State) : Host.Outcome State Fault Refusal := .next s

/-- RESERVED_17: nothing; the diagnostic is not state (R176, log 11). -/
def execReserved17 (s : State) : Host.Outcome State Fault Refusal := .next s

/-- RESERVED_18: nothing; the diagnostic is not state (R176, log 11). -/
def execReserved18 (s : State) : Host.Outcome State Fault Refusal := .next s

/-- RESERVED_19: nothing; the diagnostic is not state (R176, log 11). -/
def execReserved19 (s : State) : Host.Outcome State Fault Refusal := .next s

/-- RESERVED_1A: nothing; the diagnostic is not state (R176, log 11). -/
def execReserved1a (s : State) : Host.Outcome State Fault Refusal := .next s

/-- RESERVED_1B: nothing; the diagnostic is not state (R176, log 11). -/
def execReserved1b (s : State) : Host.Outcome State Fault Refusal := .next s

/-- RESERVED_1C: nothing; the diagnostic is not state (R176, log 11). -/
def execReserved1c (s : State) : Host.Outcome State Fault Refusal := .next s

/-- RESERVED_1D: nothing; the diagnostic is not state (R176, log 11). -/
def execReserved1d (s : State) : Host.Outcome State Fault Refusal := .next s

/-- RESERVED_1E: nothing; the diagnostic is not state (R176, log 11). -/
def execReserved1e (s : State) : Host.Outcome State Fault Refusal := .next s

/-- RESERVED_1F: nothing; the diagnostic is not state (R176, log 11). -/
def execReserved1f (s : State) : Host.Outcome State Fault Refusal := .next s

/-- RESERVED_20: nothing; the diagnostic is not state (R176, log 11). -/
def execReserved20 (s : State) : Host.Outcome State Fault Refusal := .next s

/-- RESERVED_21: nothing; the diagnostic is not state (R176, log 11). -/
def execReserved21 (s : State) : Host.Outcome State Fault Refusal := .next s

/-- RESERVED_22: nothing; the diagnostic is not state (R176, log 11). -/
def execReserved22 (s : State) : Host.Outcome State Fault Refusal := .next s

/-- RESERVED_23: nothing; the diagnostic is not state (R176, log 11). -/
def execReserved23 (s : State) : Host.Outcome State Fault Refusal := .next s

/-- RESERVED_31: nothing; the diagnostic is not state (R176, log 11). -/
def execReserved31 (s : State) : Host.Outcome State Fault Refusal := .next s

/-- SYNC_LOAD: nothing; every earlier command has completed (R201, log 10). -/
def execSyncLoad (s : State) : Host.Outcome State Fault Refusal := .next s

/-- SYNC_PIPE: nothing; every earlier command has completed (R202, log 10). -/
def execSyncPipe (s : State) : Host.Outcome State Fault Refusal := .next s

/-- SYNC_TILE: nothing; every earlier command has completed (R203, log 10). -/
def execSyncTile (s : State) : Host.Outcome State Fault Refusal := .next s

/-- SYNC_FULL: the completion signal (R204). -/
def execSyncFull (s : State) : Host.Outcome State Fault Refusal := .next (emitSync s)

end Sys2Proof.Machine
end

