-- ==== Sys2Proof/Machine/Dispatch.lean ====
section
/-! DEFINITION. The dispatch mux: one arm per constructor of `Instr` (40_command_processor.md R164). -/

namespace Sys2Proof.Machine

/-- `Dispatch` (R164): the meaning of each command. -/
def exec (i : Instr) (s : State) : Host.Outcome State Fault Refusal :=
  match i with
  | .nop => Sys2Proof.Machine.execNop s
  | .reserved01 => Sys2Proof.Machine.execReserved01 s
  | .reserved02 => Sys2Proof.Machine.execReserved02 s
  | .reserved03 => Sys2Proof.Machine.execReserved03 s
  | .reserved04 => Sys2Proof.Machine.execReserved04 s
  | .reserved05 => Sys2Proof.Machine.execReserved05 s
  | .reserved06 => Sys2Proof.Machine.execReserved06 s
  | .reserved07 => Sys2Proof.Machine.execReserved07 s
  | .triFill e => Sys2Proof.Machine.execTriFill e s
  | .triFillZ e z => Sys2Proof.Machine.execTriFillZ e z s
  | .triTex e x => Sys2Proof.Machine.execTriTex e x s
  | .triTexZ e x z => Sys2Proof.Machine.execTriTexZ e x z s
  | .triShade e c => Sys2Proof.Machine.execTriShade e c s
  | .triShadeZ e c z => Sys2Proof.Machine.execTriShadeZ e c z s
  | .triShadeTex e c x => Sys2Proof.Machine.execTriShadeTex e c x s
  | .triShadeTexZ e c x z => Sys2Proof.Machine.execTriShadeTexZ e c x z s
  | .reserved10 => Sys2Proof.Machine.execReserved10 s
  | .reserved11 => Sys2Proof.Machine.execReserved11 s
  | .reserved12 => Sys2Proof.Machine.execReserved12 s
  | .reserved13 => Sys2Proof.Machine.execReserved13 s
  | .reserved14 => Sys2Proof.Machine.execReserved14 s
  | .reserved15 => Sys2Proof.Machine.execReserved15 s
  | .reserved16 => Sys2Proof.Machine.execReserved16 s
  | .reserved17 => Sys2Proof.Machine.execReserved17 s
  | .reserved18 => Sys2Proof.Machine.execReserved18 s
  | .reserved19 => Sys2Proof.Machine.execReserved19 s
  | .reserved1a => Sys2Proof.Machine.execReserved1a s
  | .reserved1b => Sys2Proof.Machine.execReserved1b s
  | .reserved1c => Sys2Proof.Machine.execReserved1c s
  | .reserved1d => Sys2Proof.Machine.execReserved1d s
  | .reserved1e => Sys2Proof.Machine.execReserved1e s
  | .reserved1f => Sys2Proof.Machine.execReserved1f s
  | .reserved20 => Sys2Proof.Machine.execReserved20 s
  | .reserved21 => Sys2Proof.Machine.execReserved21 s
  | .reserved22 => Sys2Proof.Machine.execReserved22 s
  | .reserved23 => Sys2Proof.Machine.execReserved23 s
  | .textureRectangle o => Sys2Proof.Machine.execTextureRectangle o s
  | .textureRectangleFlip o => Sys2Proof.Machine.execTextureRectangleFlip o s
  | .syncLoad => Sys2Proof.Machine.execSyncLoad s
  | .syncPipe => Sys2Proof.Machine.execSyncPipe s
  | .syncTile => Sys2Proof.Machine.execSyncTile s
  | .syncFull => Sys2Proof.Machine.execSyncFull s
  | .setKeyGb o => Sys2Proof.Machine.execSetKeyGb o s
  | .setKeyR o => Sys2Proof.Machine.execSetKeyR o s
  | .setConvert o => Sys2Proof.Machine.execSetConvert o s
  | .setScissor o => Sys2Proof.Machine.execSetScissor o s
  | .setPrimDepth o => Sys2Proof.Machine.execSetPrimDepth o s
  | .setOtherModes m => Sys2Proof.Machine.execSetOtherModes m s
  | .loadTlut o => Sys2Proof.Machine.execLoadTlut o s
  | .reserved31 => Sys2Proof.Machine.execReserved31 s
  | .setTileSize o => Sys2Proof.Machine.execSetTileSize o s
  | .loadBlock o => Sys2Proof.Machine.execLoadBlock o s
  | .loadTile o => Sys2Proof.Machine.execLoadTile o s
  | .setTile o => Sys2Proof.Machine.execSetTile o s
  | .fillRectangle o => Sys2Proof.Machine.execFillRectangle o s
  | .setFillColor color => Sys2Proof.Machine.execSetFillColor color s
  | .setFogColor color => Sys2Proof.Machine.execSetFogColor color s
  | .setBlendColor color => Sys2Proof.Machine.execSetBlendColor color s
  | .setPrimColor o => Sys2Proof.Machine.execSetPrimColor o s
  | .setEnvColor color => Sys2Proof.Machine.execSetEnvColor color s
  | .setCombine c => Sys2Proof.Machine.execSetCombine c s
  | .setTextureImage o => Sys2Proof.Machine.execSetTextureImage o s
  | .setZImage address => Sys2Proof.Machine.execSetZImage address s
  | .setColorImage o => Sys2Proof.Machine.execSetColorImage o s

end Sys2Proof.Machine
end

