-- ==== Sys2Proof/Machine/Run.lean ====
section
/-! DEFINITION. Dispatching the head of the queue (40_command_processor.md R163 to R168). -/

namespace Sys2Proof.Machine

/-- The outcome of a command with the queue moved past it (R165). -/
def advanceOutcome (len : Nat) (o : Host.Outcome State Fault Refusal) : Host.Outcome State Fault Refusal :=
  match o with
  | .next t => .next (advance t len)
  | .fault r => .fault r
  | .refused r => .refused r

/-- One command: the head of the queue is decoded, executed, and passed; when it is not a whole command no words remain, and the
call ends (R165, R167, R168). -/
def dispatchHead (s : State) : Host.Outcome State Fault Refusal :=
  if wholeHead (pending s) then
    match decodeWords (pending s) with
    | .ok (i, _) => advanceOutcome (cmdLen i.op) (exec i s)
    | .error _ => .fault .undecodable
  else .next (finishCall s)

/-- One step of a call in progress (R165, R172): while CRASHED nothing is dispatched and the call ends. -/
def stepCall (s : State) (c : Call) : Host.Outcome State Fault Refusal :=
  if s.crashed then .next (finishCall s) else dispatchHead (refill s c)

end Sys2Proof.Machine
end

