-- ==== Sys2Proof/Machine/Step.lean ====
section
/-! DEFINITION. One step of the core: one command of the call in progress, or the end of the call; with no call in progress the
core is idle (00_scope.md R13, R14, 70_reset_and_hazards.md R640). -/

namespace Sys2Proof.Machine

/-- One step. -/
def step (s : State) : Host.Outcome State Fault Refusal :=
  match s.call with
  | none => .next s
  | some c => stepCall s c

/-- `s` with a call just started over the one instruction whose bits are `w` (log 2): its words stand at the start of the
selected command source, big-endian, and the next step fetches and runs it. -/
def State.withFetchWord (s : State) (nbits w : Nat) : State :=
  let ws := tableWords nbits w
  loadCommand s (ws.take (cmdLen (opcodeOf (ws.getD 0 0))))

end Sys2Proof.Machine
end

