-- ==== Sys2Proof/Machine/HostOps.lean ====
section
/-! DEFINITION. The host operations (40_command_processor.md R161): what the collaborators can do between calls. None is part of
`step`; while a call is in progress each leaves the state as it is, and a read answers nothing, since it is not legal then
(log 2). -/

namespace Sys2Proof.Machine

/-- A host operation: it acts only when no call is in progress (R161). -/
def betweenCalls (s : State) (t : State) : State :=
  match s.call with
  | none => t
  | some _ => s

/-- A host read: it changes nothing and is available only when no call is in progress (R161, 20_memory.md R102). -/
def readBetweenCalls {α : Type} (s : State) (v : α) : Option α :=
  match s.call with
  | none => some v
  | some _ => none

/-- `HostSetRange(s, e)` (R161). -/
def hostSetRange (s : State) (start stop : BitVec 24) : State :=
  betweenCalls s { s with startc := start, current := start, endc := stop }

/-- `HostSetEnd(e)` (R161). -/
def hostSetEnd (s : State) (stop : BitVec 24) : State := betweenCalls s { s with endc := stop }

/-- `HostSetXbus(b)` (R161). -/
def hostSetXbus (s : State) (b : Bool) : State := betweenCalls s { s with xbus := b }

/-- `HostRun()` up to the first fetch; the steps of the core do the rest (R161, R165). -/
def hostRun (s : State) : State := betweenCalls s (startCall s)

/-- `HostReset()` (70_reset_and_hazards.md R641). -/
def hostReset (s : State) : State := betweenCalls s (resetLatch s)

/-- `HostReadCurrent()` (R161). -/
def hostReadCurrent (s : State) : Option (BitVec 24) := readBetweenCalls s s.current

/-- `HostReadCrashed()` (R161). -/
def hostReadCrashed (s : State) : Option Bool := readBetweenCalls s s.crashed

/-- A debug read of main memory word `i`: `Rd32`, only between calls (20_memory.md R102). -/
def debugMem (s : State) (i : Nat) : Option Word := readBetweenCalls s (rd32 s.cfg s.ram i)

/-- A debug read of TMEM word `k` in 0 to 1023, only between calls (20_memory.md R102). -/
def debugTmem (s : State) (k : Nat) : Option Word :=
  readBetweenCalls s (tmem16 s.tmem (2 * k) ++ tmem16 s.tmem (2 * k + 1))

/-- A collaborator's write of one byte of main memory; the hidden bits stay (R161, 20_memory.md R86). -/
def hostWriteMem (s : State) (a : Nat) (v : Byte) : State :=
  betweenCalls s { s with ram := if a < memSize s.cfg then setMemByte s.ram a v else s.ram }

/-- A collaborator's write of one word of `XMEM` (R161, 20_memory.md R97). -/
def hostWriteXmem (s : State) (k : Nat) (v : Word) : State :=
  betweenCalls s { s with xmem := Cells.write 0 s.xmem (k % 1024) v }

/-- At most `fuel` steps, ending when the call in progress has ended. -/
def stepsToIdle (fuel : Nat) (s : State) : Host.Outcome State Fault Refusal :=
  match fuel with
  | 0 => .next s
  | n + 1 =>
    match s.call with
    | none => .next s
    | some _ =>
      match step s with
      | .next t => stepsToIdle n t
      | .fault r => .fault r
      | .refused r => .refused r

/-- `ProcessCommandList()` run to completion (R165): one step per word of the range and one more is enough, since every step but
the last dispatches a command of two words or more. -/
def processCommandList (s : State) : Host.Outcome State Fault Refusal :=
  let s1 := startCall s
  stepsToIdle (s.cmdq.length + (aligned s.endc - aligned s.current) / 4 + 1) s1

end Sys2Proof.Machine
end

