-- ==== Sys2Proof/Safety.lean ====
section
/-! DEFINITION. The terms of the claims: the invariant of the machine, the groups of instructions the spec names, and what a
claim about memory refers to. -/

namespace Sys2Proof.Machine

/-! ## The invariant -/

/-- Main memory and the hidden-bits plane are canonical and lie below `MEM_SIZE` (20_memory.md R80, R86). -/
def ramOk (cfg : Config) (ram : Ram) : Bool :=
  Memory.wf (memSize cfg) ram.mem && Cells.wf cfg.hiddenInit (memSize cfg / 2) ram.hid

/-- The same of a state's memory. -/
def ramWf (s : State) : Bool := ramOk s.cfg s.ram

/-- Texture memory is canonical and has 4096 bytes (R95). -/
def tmemWf (s : State) : Bool := Cells.wf (0 : Byte) 4096 s.tmem

/-- The alternate source is canonical and has 1024 words (R97). -/
def xmemWf (s : State) : Bool := Cells.wf (0 : Word) 1024 s.xmem

/-- The image widths are 1 to 1024 (10_state.md R38). -/
def widthsOk (s : State) : Bool :=
  decide (1 ≤ s.fbWidth.toNat) && decide (s.fbWidth.toNat ≤ 1024) && decide (1 ≤ s.tiWidth.toNat) &&
    decide (s.tiWidth.toNat ≤ 1024)

/-- Only bits 30 to 16 of `prim_z` are ever set (10_state.md R36). -/
def primZOk (s : State) : Bool := s.primZ &&& 0x8000ffff#32 == 0

/-- A residue: no word, or the beginning of one command and not all of it (10_state.md R27, 40_command_processor.md R168). -/
def residueOk (ws : List Word) : Bool := !wholeHead ws

/-- The queue and the call in progress (10_state.md R26, R27, 40_command_processor.md R165, R173): `0 <= q_cur <= q_ptr <= 42 +
CMD_BATCH`; between calls, or before the first batch of a call, nothing but a residue of whole 64-bit words; and in a call the
words of the queue with those still to fetch are whole 64-bit words, although an odd `CMD_BATCH` may end a batch inside one. -/
def queueOk (s : State) : Bool :=
  decide (s.qCur ≤ s.cmdq.length) && decide (s.cmdq.length ≤ 42 + cmdBatch s.cfg) && decide (s.qCur % 2 = 0) &&
    match s.call with
    | none => decide (s.cmdq.length % 2 = 0) && decide (s.qCur = 0) && residueOk s.cmdq
    | some c =>
      decide ((s.cmdq.length + c.remaining) % 2 = 0) &&
        (!c.fresh || (decide (s.cmdq.length % 2 = 0) && decide (s.qCur = 0) && residueOk s.cmdq))

/-- The span buffer is canonical and has 1024 rows; the coverage buffer is canonical (10_state.md R62, R63). -/
def scratchWf (s : State) : Bool :=
  Cells.wf Span.zero 1024 s.scratch.spans && Cells.wf (0 : Byte) 4096 s.scratch.cvgbuf

/-- The invariant of the machine, which the power-on state meets and every step keeps. -/
abbrev Inv (s : State) : Prop :=
  ramWf s = true ∧ tmemWf s = true ∧ xmemWf s = true ∧ widthsOk s = true ∧ primZOk s = true ∧ queueOk s = true ∧
    scratchWf s = true

/-! ## Groups of instructions -/

/-- The eleven drawing commands (45_primitive_commands.md R320). -/
def drawing (i : Instr) : Bool :=
  match i with
  | .triFill _ | .triFillZ _ _ | .triTex _ _ | .triTexZ _ _ _ | .triShade _ _ | .triShadeZ _ _ _ | .triShadeTex _ _ _
  | .triShadeTexZ _ _ _ _ | .textureRectangle _ | .textureRectangleFlip _ | .fillRectangle _ => true
  | _ => false

/-- The edge-walker block a drawing command assembles, when the cycle type is `cycle` (R321, R334); the other commands have
none. -/
def blockOf (cycle : CycleType) (i : Instr) : List Word :=
  match i with
  | .triFill e => assembleTri 0x08 e none none none
  | .triFillZ e z => assembleTri 0x09 e none none (some z)
  | .triTex e x => assembleTri 0x0A e none (some x) none
  | .triTexZ e x z => assembleTri 0x0B e none (some x) (some z)
  | .triShade e c => assembleTri 0x0C e (some c) none none
  | .triShadeZ e c z => assembleTri 0x0D e (some c) none (some z)
  | .triShadeTex e c x => assembleTri 0x0E e (some c) (some x) none
  | .triShadeTexZ e c x z => assembleTri 0x0F e (some c) (some x) (some z)
  | .textureRectangle o => assembleRect 0x24 cycle o.tile o.rect (some (texRectBlock o))
  | .textureRectangleFlip o => assembleRect 0x25 cycle o.tile o.rect (some (texRectFlipBlock o))
  | .fillRectangle o => assembleRect 0x36 cycle 0 o none
  | _ => []

/-- The primitive a drawing command draws in state `s`. -/
def primOf (s : State) (i : Instr) : Primitive := decodeEw (blockOf s.mode.cycleType i)

/-- The three load commands (44_load_commands.md R290). -/
def loading (i : Instr) : Bool :=
  match i with
  | .loadTile _ | .loadBlock _ | .loadTlut _ => true
  | _ => false

/-- The commands that do nothing (40_command_processor.md R175, R176, 41_sync_commands.md R201 to R203). -/
def noOps : List Instr :=
  [.nop, .reserved01, .reserved02, .reserved03, .reserved04, .reserved05, .reserved06, .reserved07, .reserved10, .reserved11,
   .reserved12, .reserved13, .reserved14, .reserved15, .reserved16, .reserved17] ++
  [.reserved18, .reserved19, .reserved1a, .reserved1b, .reserved1c, .reserved1d, .reserved1e, .reserved1f, .reserved20,
   .reserved21, .reserved22, .reserved23, .reserved31, .syncLoad, .syncPipe, .syncTile]

/-- The opcodes of the commands that do nothing (30_encoding.md R123). -/
def noOpOpcode (op : BitVec 6) : Bool :=
  let n := op.toNat
  decide (n ≤ 0x07) || (decide (0x10 ≤ n) && decide (n ≤ 0x23)) || (decide (0x26 ≤ n) && decide (n ≤ 0x28)) || n == 0x31

/-! ## What a word sequence does -/

/-- At most `n` commands of the word sequence `ws` dispatched in order on `s`, and the words left over: nothing is dispatched
once the core has crashed, and nothing of a command that is not whole (40_command_processor.md R167, R172, R174). -/
def dispatchAll (n : Nat) (ws : List Word) (s : State) : State × List Word :=
  match n with
  | 0 => (s, ws)
  | n + 1 =>
    if s.crashed then (s, ws)
    else if wholeHead ws then
      match decodeWords ws with
      | .ok (i, rest) =>
        match exec i s with
        | .next t => dispatchAll n rest t
        | .fault _ => (s, ws)
        | .refused _ => (s, ws)
      | .error _ => (s, ws)
    else (s, ws)

/-! ## The operands of the drawing commands -/

/-- A shade block of zeros (45_primitive_commands.md R321). -/
def noShade : ShadeBlock := { base := Rgba.same 0, dx := Rgba.same 0, de := Rgba.same 0, dy := Rgba.same 0 }

/-- A texture block of zeros (R321). -/
def noTex : TexBlock :=
  { base := { s := 0, t := 0, w := 0 }, dx := { s := 0, t := 0, w := 0 }, de := { s := 0, t := 0, w := 0 },
    dy := { s := 0, t := 0, w := 0 } }

/-- A depth block of zeros (R321). -/
def noZ : ZBlock := { z := 0, dzdx := 0, dzde := 0, dzdy := 0 }

/-- The edges and the blocks of a triangle, an absent block as zeros (R321, R324); the other commands have none. -/
def triParts (i : Instr) : Option (TriEdges × ShadeBlock × TexBlock × ZBlock) :=
  match i with
  | .triFill e => some (e, noShade, noTex, noZ)
  | .triFillZ e z => some (e, noShade, noTex, z)
  | .triTex e x => some (e, noShade, x, noZ)
  | .triTexZ e x z => some (e, noShade, x, z)
  | .triShade e c => some (e, c, noTex, noZ)
  | .triShadeZ e c z => some (e, c, noTex, z)
  | .triShadeTex e c x => some (e, c, x, noZ)
  | .triShadeTexZ e c x z => some (e, c, x, z)
  | _ => none

/-- The bottom coordinate of a rectangle as an integer: the last quarter of its scanline in copy and fill mode (R334). -/
def bottomOf (cycle : CycleType) (yl : BitVec 12) : Int :=
  if cycle = .copy ∨ cycle = .fill then ((yl.toNat / 4 * 4 + 3 : Nat) : Int) else ((yl.toNat : Nat) : Int)

/-! ## The texels a load reads -/

/-- The 16-bit texel at byte address `p` of main memory, each byte checked against the ceiling (44_load_commands.md R298). -/
def texelHalf (s : State) (p : Int) : Half := sourceByte s p ++ sourceByte s (p + 1)

/-! ## The memory a drawing command can store to -/

/-- The pixels a drawing command visits (46_edge_walker.md R396). -/
def pixelsOf (s : State) (i : Instr) : List (Int × Int) :=
  let q := primOf s i
  visited q.flip (walkSpans s q) (yStart s q) (yEnd s q)

/-- The addresses of the `n` bytes of unit `u` (20_memory.md R84, R85). -/
def unitAddresses (n u : Nat) : List Nat := (List.range n).map fun k => n * u + k

/-- The colour bytes of pixel `p` (49_depth_coverage_framebuffer.md R560; copy mode writes bytes, R588). -/
def colorBytes (s : State) (p : Int) : List Nat :=
  match s.fbSize.toNat with
  | 0 => [index32 (fbByte s p)]
  | 1 => [index32 (fbByte s p)]
  | 2 =>
    if s.mode.cycleType = .copy then
      let a := clearLow (unsigned s.fbAddress + 2 * p) 1
      [index32 a, index32 (a + 1)]
    else unitAddresses 2 (index32 (fbHalf s p))
  | _ => unitAddresses 4 (index32 (fbWord s p))

/-- The depth bytes of pixel `p`: stored only by the 1-cycle and 2-cycle pipelines with `z_update_en` (R548). -/
def depthBytes (s : State) (p : Int) : List Nat :=
  if s.mode.zUpdateEn ∧ (s.mode.cycleType = .one ∨ s.mode.cycleType = .two) then unitAddresses 2 (index32 (zHalf s p)) else []

/-- The bytes a drawing command can store to: those of the pixels it visits. -/
def storedBytes (s : State) (i : Instr) : List Nat :=
  (pixelsOf s i).flatMap fun xy => colorBytes s (pixelIndex s xy.1 xy.2) ++ depthBytes s (pixelIndex s xy.1 xy.2)

/-- The condition on which a command raises `Crashed` (60_exceptions.md R601). -/
def raises (s : State) (i : Instr) : Bool :=
  (drawing i &&
    ((s.mode.cycleType == .fill && s.fbSize == 0) || (s.mode.cycleType == .copy && s.fbSize == 0) ||
      (s.mode.cycleType == .copy && s.fbSize == 3 && s.cfg.copy32Lockup))) ||
  (s.cfg.loadLockup &&
    ((loading i && s.tiSize == 0) ||
      match i with
      | .loadTlut o => decide (o.th.toNat / 4 > o.tl.toNat / 4)
      | _ => false))

end Sys2Proof.Machine
end

