-- ==== Sys2Proof/Certificates/Slice0/Obligations.lean ====
section
/-! DEFINITION. The statements about the machine. Each docstring names the rule of spec/ a statement formalises, or the rules it
is read from. A register field cut out of a command word is written with the spec's own bit numbers: `w.extractLsb 23 12` is
`w[23:12]`. -/

open Sys2Proof Sys2Proof.Machine

/-! ## The encoding -/

/-- Every instruction is read back from its words, with every operand at every value its field admits, and nothing of what
follows it is consumed; the same of its bytes in memory order (30_encoding.md R156). -/
def Obligations.RoundTrip : Prop :=
  (∀ (i : Instr) (rest : List Word), i.wellFormed = true ∧ decodeWords (encode i ++ rest) = .ok (i, rest)) ∧
    ∀ (i : Instr) (bs : List Byte), decode (encodeBytes i ++ bs) = .ok (i, bs)

/-- Decoding is total: a sequence shorter than the command its first word begins is refused by name, and any other sequence
gives an instruction of that opcode and the words after it; no opcode is refused (30_encoding.md R123, R124,
40_command_processor.md R163, R167). -/
def Obligations.DecodeTotal : Prop :=
  ∀ ws : List Word,
    (ws.length < cmdLen (opcodeOf (ws.getD 0 0)) → decodeWords ws = .error .truncated) ∧
      (cmdLen (opcodeOf (ws.getD 0 0)) ≤ ws.length →
        ∃ i, decodeWords ws = .ok (i, ws.drop (cmdLen (opcodeOf (ws.getD 0 0)))) ∧ i.op = opcodeOf (ws.getD 0 0))

/-- R121: the opcode is `w0[29:24]`, and bits `w0[31:30]` change nothing of what is decoded. -/
def Obligations.IgnoredTopBits : Prop :=
  (∀ w : Word, opcodeOf w = w.extractLsb 29 24) ∧
    ∀ (w v : Word) (rest : List Word), w.extractLsb 29 0 = v.extractLsb 29 0 → decodeWords (w :: rest) = decodeWords (v :: rest)

/-- R122: the length table in words, its formula for the triangles, its longest entry, and the bytes of an encoded command. -/
def Obligations.LengthTable : Prop :=
  (cmdLen 0x08 = 8 ∧ cmdLen 0x09 = 12 ∧ cmdLen 0x0A = 24 ∧ cmdLen 0x0B = 28 ∧ cmdLen 0x0C = 24 ∧ cmdLen 0x0D = 28 ∧
    cmdLen 0x0E = 40 ∧ cmdLen 0x0F = 44 ∧ cmdLen 0x24 = 4 ∧ cmdLen 0x25 = 4) ∧
  (∀ op : BitVec 6, (op.toNat < 0x08 ∨ 0x0F < op.toNat) → op ≠ 0x24 → op ≠ 0x25 → cmdLen op = 2) ∧
  (∀ op : BitVec 6, 0x08 ≤ op.toNat → op.toNat ≤ 0x0F →
    cmdLen op = 8 + 16 * (op.getLsbD 2).toNat + 16 * (op.getLsbD 1).toNat + 4 * (op.getLsbD 0).toNat) ∧
  (∀ op : BitVec 6, cmdLen op ≤ 44) ∧
  ∀ i : Instr, (encode i).length = cmdLen i.op ∧ (encodeBytes i).length = 4 * cmdLen i.op

/-- Words written out from the formats decode to the commands they stand for, one or more of each family
(95_test_vectors.md V-ENC; 30_encoding.md R133 to R150). -/
def Obligations.DecodeSanityWords : Prop :=
  decodeWords [0x3600C00C, 0] = .ok (.fillRectangle { xl := 0x00C, yl := 0x00C, xh := 0, yh := 0 }, []) ∧
  decodeWords [0xFF10013F, 0x00100000] =
    .ok (.setColorImage { format := 0, size := 2, width := 0x13F, address := 0x100000 }, []) ∧
  decodeWords [0x2E000000, 0xFFFFFFFF] = .ok (.setPrimDepth { z := 0x7FFF, dz := 0xFFFF }, []) ∧
  decodeWords [0x13ABCDEF, 0x12345678] = .ok (.reserved13, []) ∧
  decodeWords [0x2C15FD5D, 0x3B78E42A] =
    .ok (.setConvert { k0 := 0x0AF, k1 := 0x1D5, k2 := 0x1A7, k3 := 0x0DE, k4 := 0x072, k5 := 0x02A }, []) ∧
  decodeWords [0x33000000, 0x00007800] = .ok (.loadBlock { sl := 0, tl := 0, tile := 0, sh := 7, th := 0x800 }, []) ∧
  decodeWords [0x24040040, 0, 0, 0x04000400] =
    .ok (.textureRectangle { rect := { xl := 0x040, yl := 0x040, xh := 0, yh := 0 }, tile := 0, s := 0, t := 0,
                             dsdx := 0x400, dtdy := 0x400 }, []) ∧
  decodeWords [0x08800020, 0x00200000, 0x00080000, 0, 0, 0, 0, 0x00010000] =
    .ok (.triFill { flip := true, level := 0, tile := 0, yl := 0x20, ym := 0x20, yh := 0, xl := 0x00080000, dxldy := 0,
                    xh := 0, dxhdy := 0, xm := 0, dxmdy := 0x00010000 }, []) ∧
  decodeWords [0x29FFFFFF, 0xFFFFFFFF] = .ok (.syncFull, [])

/-! ## One step -/

/-- A step runs the decoded instruction. With a call in progress and the latch clear, when the words at the head of the queue
decode to `i`, the step is `exec i` on the state with its queue made ready, with the queue then moved past the words of `i`
(40_command_processor.md R164, R165). How the queue is made ready: not at all when its head is a whole command; by the first
batch of the call appended to it when the call is fresh. A call over a range that is not empty starts at `CURRENT` with its low
three bits cleared (20_memory.md R90). The cut of a call into steps is the model's choice, which R13 allows (log 1). -/
def Obligations.StepRunsDecoded : Prop :=
  (∀ (s : State) (c : Call) (i : Instr) (rest : List Word), s.call = some c → s.crashed = false →
    decodeWords (pending (refill s c)) = .ok (i, rest) →
    step s = advanceOutcome (cmdLen i.op) (exec i (refill s c))) ∧
  (∀ (s : State) (c : Call), c.fresh = false → wholeHead (pending s) = true → refill s c = s) ∧
  (∀ (s : State) (c : Call) (i : Instr) (rest : List Word), s.call = some c → c.fresh = true → s.cmdq = [] → s.qCur = 0 →
    s.crashed = false → decodeWords (fetchWords s c.widx (min c.remaining (cmdBatch s.cfg))) = .ok (i, rest) →
    step s = advanceOutcome (cmdLen i.op) (exec i
      { s with cmdq := fetchWords s c.widx (min c.remaining (cmdBatch s.cfg)),
               call := some { widx := c.widx + min c.remaining (cmdBatch s.cfg),
                              remaining := c.remaining - min c.remaining (cmdBatch s.cfg), fresh := false } })) ∧
  (∀ s : State, s.call = none → s.current.toNat / 8 < s.endc.toNat / 8 →
    hostRun s = { s with call := some { widx := s.current.toNat / 8 * 2,
                                        remaining := (s.endc.toNat / 8 - s.current.toNat / 8) * 2, fresh := true } })

/-- The machine never stops: every step answers a next state, and so does every instruction (40_command_processor.md R173 (d),
60_exceptions.md R610 to R613). Of what an instruction may not touch nothing changes (R179: "No handler writes a cursor, `XBUS`,
`CMDQ`, `q_ptr` or `q_cur`"; 20_memory.md R97 of `XMEM`), and only SYNC_FULL emits. That the configuration and the call in
progress are fields of the state, that a step is one command (log 1), and that a fault exists which no step answers (log 18) are
the model's choices. -/
def Obligations.HandlerFrame : Prop :=
  (∀ (i : Instr) (s : State), ∃ t, exec i s = .next t ∧ t.cfg = s.cfg ∧ t.startc = s.startc ∧ t.endc = s.endc ∧
    t.current = s.current ∧ t.xbus = s.xbus ∧ t.cmdq = s.cmdq ∧ t.qCur = s.qCur ∧ t.call = s.call ∧ t.xmem = s.xmem ∧
    (i ≠ .syncFull → t.syncEvents = s.syncEvents)) ∧
  ∀ s : State, ∃ t, step s = .next t

/-- Each register is written by the commands named in its row of 10_state.md and by no other (R20, R31 to R41): whatever the
operands and the state, a command that is not among them leaves it as it was. -/
def Obligations.RegistersOwned : Prop :=
  ∀ (i : Instr) (s t : State), exec i s = .next t →
    ((∀ m, i ≠ .setOtherModes m) → t.mode = s.mode) ∧
    ((∀ c, i ≠ .setCombine c) → t.combine = s.combine) ∧
    ((∀ c, i ≠ .setFogColor c) → t.fogColor = s.fogColor) ∧
    ((∀ c, i ≠ .setBlendColor c) → t.blendColor = s.blendColor) ∧
    ((∀ c, i ≠ .setEnvColor c) → t.envColor = s.envColor) ∧
    ((∀ c, i ≠ .setPrimColor c) →
      t.primColor = s.primColor ∧ t.minLevel = s.minLevel ∧ t.primLodFrac = s.primLodFrac) ∧
    ((∀ c, i ≠ .setFillColor c) → t.fillColor = s.fillColor) ∧
    ((∀ o, i ≠ .setKeyGb o) → (∀ o, i ≠ .setKeyR o) →
      t.keyCenter = s.keyCenter ∧ t.keyScale = s.keyScale ∧ t.keyWidth = s.keyWidth) ∧
    ((∀ o, i ≠ .setConvert o) →
      t.k0 = s.k0 ∧ t.k1 = s.k1 ∧ t.k2 = s.k2 ∧ t.k3 = s.k3 ∧ t.k4 = s.k4 ∧ t.k5 = s.k5) ∧
    ((∀ o, i ≠ .setPrimDepth o) → t.primZ = s.primZ ∧ t.primDz = s.primDz) ∧
    ((∀ o, i ≠ .setScissor o) →
      t.clipXh = s.clipXh ∧ t.clipYh = s.clipYh ∧ t.clipXl = s.clipXl ∧ t.clipYl = s.clipYl ∧ t.scfield = s.scfield ∧
        t.sckeepodd = s.sckeepodd) ∧
    ((∀ o, i ≠ .setColorImage o) →
      t.fbFormat = s.fbFormat ∧ t.fbSize = s.fbSize ∧ t.fbWidth = s.fbWidth ∧ t.fbAddress = s.fbAddress) ∧
    ((∀ o, i ≠ .setTextureImage o) →
      t.tiFormat = s.tiFormat ∧ t.tiSize = s.tiSize ∧ t.tiWidth = s.tiWidth ∧ t.tiAddress = s.tiAddress) ∧
    ((∀ a, i ≠ .setZImage a) → t.zbAddress = s.zbAddress) ∧
    ((∀ o, i ≠ .setTile o) → (∀ o, i ≠ .setTileSize o) → loading i = false → t.tiles = s.tiles) ∧
    (loading i = false → t.tmem = s.tmem) ∧
    (drawing i = false → t.maxLevel = s.maxLevel ∧ t.noiseSeed = s.noiseSeed ∧ t.ram = s.ram) ∧
    (drawing i = false → loading i = false → t.crashed = s.crashed ∧ t.scratch = s.scratch)

/-! ## The call -/

/-- While `CRASHED = 1` nothing is dispatched (R603, R172), whatever the queue and the list hold: the step ends the call, the queue is
emptied and the cursor reaches `END`; a whole run does the same and changes nothing else. With no call in progress a step
changes nothing. The cut of a call into steps is the model's choice, which R13 allows (log 1, log 17). -/
def Obligations.CrashedDropsAll : Prop :=
  (∀ (s : State) (c : Call), s.call = some c → s.crashed = true →
    step s = .next { s with cmdq := [], qCur := 0, current := s.endc, call := none }) ∧
  (∀ s : State, s.call = none → s.crashed = true → s.current.toNat / 8 < s.endc.toNat / 8 →
    processCommandList s = .next { s with cmdq := [], qCur := 0, current := s.endc }) ∧
  ∀ s : State, s.call = none → step s = .next s

/-- The stall: when the latch is clear and the words at the head of the queue made ready are not a whole command, no word of the
range is left to fetch, nothing is executed, and the call ends with those words kept at the front of the queue and `CURRENT` at
`END` (40_command_processor.md R165, R168, R169, R171). Nothing else of the state changes. The cut of a call into steps is the model's choice, which R13
allows (log 1). -/
def Obligations.StallKeepsResidue : Prop :=
  ∀ (s : State) (c : Call), s.call = some c → s.qCur ≤ s.cmdq.length → s.crashed = false →
    wholeHead (pending (refill s c)) = false →
    (∃ d, (refill s c).call = some d ∧ d.remaining = 0) ∧
      step s = .next { s with cmdq := pending (refill s c), qCur := 0, current := s.endc, call := none }

/-- R166: an empty or inverted range starts nothing. -/
def Obligations.EmptyRange : Prop :=
  ∀ s : State, s.call = none → s.endc.toNat / 8 ≤ s.current.toNat / 8 →
    hostRun s = s ∧ processCommandList s = .next s

/-- R162: where a command word comes from, and that a list which runs off the end of memory is a list of NOPs. -/
def Obligations.FetchSource : Prop :=
  (∀ (s : State) (k : Nat), s.xbus = true → fetchWord s k = xmemWord s.xmem (k % 1024)) ∧
  (∀ (s : State) (k : Nat), s.xbus = false → fetchWord s k = rd32 s.cfg s.ram k) ∧
  (∀ (s : State) (k : Nat), s.xbus = false → memSize s.cfg / 4 ≤ k → k < 2 ^ 32 → fetchWord s k = 0) ∧
  ∀ (w : Word) (rest : List Word), decodeWords (0 :: w :: rest) = .ok (.nop, rest)

/-- R641: `HostReset()` clears the latch, the scissor, the other modes and the queue, and keeps everything else. -/
def Obligations.HostResetEffect : Prop :=
  ∀ s : State, s.call = none →
    hostReset s = { s with crashed := false, clipXh := 0, clipYh := 0, clipXl := 0, clipYl := 0, scfield := false,
                           sckeepodd := false, mode := OtherModes.zero, cmdq := [], qCur := 0 }

/-- A run over a range that is not empty ends, with `CURRENT = END` and exactly one of three endings: clean, stalled, crashed
(40_command_processor.md R173 (d), R178). -/
def Obligations.RunEnds : Prop :=
  ∀ s : State, s.call = none → s.qCur = 0 → s.current.toNat / 8 < s.endc.toNat / 8 →
    ∃ t, processCommandList s = .next t ∧ t.call = none ∧ t.current = s.endc ∧ t.endc = s.endc ∧ t.startc = s.startc ∧
      t.qCur = 0 ∧
      ((t.crashed = false ∧ t.cmdq = []) ∨ (t.crashed = false ∧ t.cmdq ≠ [] ∧ wholeHead t.cmdq = false) ∨
        (t.crashed = true ∧ t.cmdq = []))

/-- Independence of batching and splitting (R174): a run does what dispatching, in order, the residue followed by the words of
the range does, whatever `CMD_BATCH` is and however the words were cut into calls. The proviso of R174 (the list is disjoint from
what its commands write, R100) is the hypothesis that after every prefix of the list the words of the range read as at the
start; with the alternate source it always holds. -/
def Obligations.SplitIndependence : Prop :=
  ∀ s : State, s.call = none → s.qCur = 0 → s.current.toNat / 8 < s.endc.toNat / 8 →
    let first := s.current.toNat / 8 * 2
    let count := (s.endc.toNat / 8 - s.current.toNat / 8) * 2
    let ws := s.cmdq ++ fetchWords s first count
    (s.xbus = true ∨ ∀ k, fetchWords (dispatchAll k ws s).1 first count = fetchWords s first count) →
    let r := dispatchAll ws.length ws s
    processCommandList s =
      .next { r.1 with cmdq := if r.1.crashed then [] else r.2, qCur := 0, current := s.endc, call := none }

/-! ## The machine's invariant and its reset -/

/-- The invariant holds of the power-on state of every configuration, and of the reset state, which is the power-on state of the
default configuration (which of the spec's two sizes `MEM_SIZE` has there is the model's choice, log 3). -/
def Obligations.InvAtReset : Prop :=
  Inv State.reset ∧ (∀ cfg : Config, Inv (State.powerOn cfg)) ∧ State.reset = State.powerOn Config.default

/-- Every step keeps the invariant: main memory, the hidden-bits plane, texture memory, the alternate source and the span buffer
keep their canonical form and lie within their sizes, the image widths stay 1 to 1024, `prim_z` keeps its shape, the queue and
the call keep theirs (20_memory.md R80, R86, R95, R97; 10_state.md R26, R27, R36, R38; 40_command_processor.md R173). -/
def Obligations.InvStep : Prop := ∀ s t : State, Inv s → step s = .next t → Inv t

/-- Every host operation keeps the invariant (40_command_processor.md R161). -/
def Obligations.InvHost : Prop :=
  ∀ s : State, Inv s →
    ∀ (a b : BitVec 24) (x : Bool) (n : Nat) (v : Byte) (w : Word),
      Inv (hostSetRange s a b) ∧ Inv (hostSetEnd s b) ∧ Inv (hostSetXbus s x) ∧ Inv (hostRun s) ∧ Inv (hostReset s) ∧
        Inv (hostWriteMem s n v) ∧ Inv (hostWriteXmem s n w)

/-- R69: the values after power-on, for every configuration. -/
def Obligations.ResetValues : Prop :=
  ∀ cfg : Config,
    let s := State.powerOn cfg
    s.startc = 0 ∧ s.endc = 0 ∧ s.current = 0 ∧ s.xbus = false ∧ s.crashed = false ∧ s.cmdq.length = 0 ∧ s.qCur = 0 ∧
      s.syncEvents = 0 ∧ s.call = none ∧
      s.mode = OtherModes.zero ∧ s.combine = { c0 := CombineSet.zero, c1 := CombineSet.zero } ∧
      s.fogColor = Rgba.same 0 ∧ s.blendColor = Rgba.same 0 ∧ s.envColor = Rgba.same 0 ∧ s.primColor = Rgba.same 0 ∧
      s.minLevel = 0 ∧ s.primLodFrac = 0 ∧ s.fillColor = 0 ∧ s.keyCenter = Rgb.same 0 ∧ s.keyScale = Rgb.same 0 ∧
      s.keyWidth = Rgb.same 0 ∧ s.k0 = 0 ∧ s.k1 = 0 ∧ s.k2 = 0 ∧ s.k3 = 0 ∧ s.k4 = 0 ∧ s.k5 = 0 ∧ s.primZ = 0 ∧
      s.primDz = 0 ∧ s.clipXh = 0 ∧ s.clipYh = 0 ∧ s.clipXl = 0 ∧ s.clipYl = 0 ∧ s.scfield = false ∧ s.sckeepodd = false ∧
      s.fbFormat = 0 ∧ s.fbSize = 0 ∧ s.fbWidth = 1 ∧ s.fbAddress = 0 ∧ s.tiFormat = 0 ∧ s.tiSize = 0 ∧ s.tiWidth = 1 ∧
      s.tiAddress = 0 ∧ s.zbAddress = 0 ∧ s.maxLevel = 0 ∧ s.noiseSeed = cfg.noiseSeed0 ∧
      (∀ n, getTile s n = Tile.zero ∧ clampEnS (getTile s n) = true ∧ clampEnT (getTile s n) = true ∧
        clampDiffS (getTile s n) = 0 ∧ clampDiffT (getTile s n) = 0 ∧ maskClamped (getTile s n).maskS = 0 ∧
        maskClamped (getTile s n).maskT = 0) ∧
      (∀ a, tmem8 s.tmem a = 0) ∧ ∀ j, (spanRow s.scratch.spans j).validline = false

/-! ## The commands that write registers -/

/-- R175, R176, R201, R202, R203: NOP, the 28 reserved opcodes and three of the synchronisation commands are two words whose
operand bits are all ignored, and change nothing. -/
def Obligations.NoOps : Prop :=
  (∀ i ∈ noOps, ∀ s : State, exec i s = .next s) ∧
  ∀ (w0 w1 : Word) (rest : List Word), noOpOpcode (w0.extractLsb 29 24) = true →
    ∃ i ∈ noOps, decodeWords (w0 :: w1 :: rest) = .ok (i, rest)

/-- SYNC_FULL emits one completion signal and writes nothing else, whatever its operand bits are (R204, R606). -/
def Obligations.SyncFull : Prop :=
  (∀ (w0 w1 : Word) (rest : List Word), w0.extractLsb 29 24 = 0x29 → decodeWords (w0 :: w1 :: rest) = .ok (.syncFull, rest)) ∧
  ∀ s : State, exec .syncFull s = .next { s with syncEvents := s.syncEvents + 1 }

/-- R221: SET_OTHER_MODES writes all the fields of `mode` and nothing else. -/
def Obligations.SetOtherModes : Prop :=
  (∀ (w0 w1 : Word) (rest : List Word), w0.extractLsb 29 24 = 0x2F →
    ∃ m, decodeWords (w0 :: w1 :: rest) = .ok (.setOtherModes m, rest) ∧
      cycleTypeBits m.cycleType = w0.extractLsb 21 20 ∧ m.perspTexEn = w0.getLsbD 19 ∧ m.detailTexEn = w0.getLsbD 18 ∧
      m.sharpenTexEn = w0.getLsbD 17 ∧ m.texLodEn = w0.getLsbD 16 ∧ m.enTlut = w0.getLsbD 15 ∧ m.tlutType = w0.getLsbD 14 ∧
      m.sampleType = w0.getLsbD 13 ∧ m.midTexel = w0.getLsbD 12 ∧ m.biLerp0 = w0.getLsbD 11 ∧ m.biLerp1 = w0.getLsbD 10 ∧
      m.convertOne = w0.getLsbD 9 ∧ m.keyEn = w0.getLsbD 8 ∧ m.rgbDitherSel = w0.extractLsb 7 6 ∧
      m.alphaDitherSel = w0.extractLsb 5 4 ∧ m.blendM1a0 = w1.extractLsb 31 30 ∧ m.blendM1a1 = w1.extractLsb 29 28 ∧
      m.blendM1b0 = w1.extractLsb 27 26 ∧ m.blendM1b1 = w1.extractLsb 25 24 ∧ m.blendM2a0 = w1.extractLsb 23 22 ∧
      m.blendM2a1 = w1.extractLsb 21 20 ∧ m.blendM2b0 = w1.extractLsb 19 18 ∧ m.blendM2b1 = w1.extractLsb 17 16 ∧
      m.forceBlend = w1.getLsbD 14 ∧ m.alphaCvgSelect = w1.getLsbD 13 ∧ m.cvgTimesAlpha = w1.getLsbD 12 ∧
      zModeBits m.zMode = w1.extractLsb 11 10 ∧ cvgDestBits m.cvgDest = w1.extractLsb 9 8 ∧ m.colorOnCvg = w1.getLsbD 7 ∧
      m.imageReadEn = w1.getLsbD 6 ∧ m.zUpdateEn = w1.getLsbD 5 ∧ m.zCompareEn = w1.getLsbD 4 ∧
      m.antialiasEn = w1.getLsbD 3 ∧ m.zSourceSel = w1.getLsbD 2 ∧ m.ditherAlphaEn = w1.getLsbD 1 ∧
      m.alphaCompareEn = w1.getLsbD 0) ∧
  ∀ (m : OtherModes) (s : State), exec (.setOtherModes m) s = .next { s with mode := m }

/-- R225: SET_COMBINE writes the sixteen selectors and nothing else. -/
def Obligations.SetCombine : Prop :=
  (∀ (w0 w1 : Word) (rest : List Word), w0.extractLsb 29 24 = 0x3C →
    decodeWords (w0 :: w1 :: rest) =
      .ok (.setCombine
        { c0 := { subARgb := w0.extractLsb 23 20, subBRgb := w1.extractLsb 31 28, mulRgb := w0.extractLsb 19 15,
                  addRgb := w1.extractLsb 17 15, subAA := w0.extractLsb 14 12, subBA := w1.extractLsb 14 12,
                  mulA := w0.extractLsb 11 9, addA := w1.extractLsb 11 9 },
          c1 := { subARgb := w0.extractLsb 8 5, subBRgb := w1.extractLsb 27 24, mulRgb := w0.extractLsb 4 0,
                  addRgb := w1.extractLsb 8 6, subAA := w1.extractLsb 23 21, subBA := w1.extractLsb 5 3,
                  mulA := w1.extractLsb 20 18, addA := w1.extractLsb 2 0 } }, rest)) ∧
  ∀ (c : Combine) (s : State), exec (.setCombine c) s = .next { s with combine := c }

/-- SET_SCISSOR writes the six scissor registers and nothing else (R228). -/
def Obligations.SetScissor : Prop :=
  (∀ (w0 w1 : Word) (rest : List Word), w0.extractLsb 29 24 = 0x2D →
    decodeWords (w0 :: w1 :: rest) =
      .ok (.setScissor { xh := w0.extractLsb 23 12, yh := w0.extractLsb 11 0, field := w1.getLsbD 25, odd := w1.getLsbD 24,
                         xl := w1.extractLsb 23 12, yl := w1.extractLsb 11 0 }, rest)) ∧
  ∀ (o : ScissorOps) (s : State), exec (.setScissor o) s =
    .next { s with clipXh := o.xh, clipYh := o.yh, clipXl := o.xl, clipYl := o.yl, scfield := o.field, sckeepodd := o.odd }

/-- R231: SET_PRIM_DEPTH keeps the 15-bit Z in place, drops `w1[31]`, and writes nothing else. -/
def Obligations.SetPrimDepth : Prop :=
  (∀ (w0 w1 : Word) (rest : List Word), w0.extractLsb 29 24 = 0x2E →
    ∃ o, decodeWords (w0 :: w1 :: rest) = .ok (.setPrimDepth o, rest) ∧
      ∀ s : State, exec (.setPrimDepth o) s = .next { s with primZ := w1 &&& 0x7fff0000, primDz := w1.extractLsb 15 0 }) ∧
  ∀ (o : PrimDepthOps) (s : State), exec (.setPrimDepth o) s =
    .next { s with primZ := o.z.setWidth 32 <<< 16, primDz := o.dz }

/-- R235, R236, R238: the two key commands write the key registers of their own channels and nothing else; SET_CONVERT writes the
six conversion registers raw and nothing else. -/
def Obligations.SetKeyConvert : Prop :=
  (∀ (w0 w1 : Word) (rest : List Word), w0.extractLsb 29 24 = 0x2A →
    decodeWords (w0 :: w1 :: rest) =
      .ok (.setKeyGb { widthG := w0.extractLsb 23 12, widthB := w0.extractLsb 11 0, centerG := w1.extractLsb 31 24,
                       scaleG := w1.extractLsb 23 16, centerB := w1.extractLsb 15 8, scaleB := w1.extractLsb 7 0 }, rest)) ∧
  (∀ (w0 w1 : Word) (rest : List Word), w0.extractLsb 29 24 = 0x2B →
    decodeWords (w0 :: w1 :: rest) =
      .ok (.setKeyR { widthR := w1.extractLsb 27 16, centerR := w1.extractLsb 15 8, scaleR := w1.extractLsb 7 0 }, rest)) ∧
  (∀ (o : KeyGbOps) (s : State), exec (.setKeyGb o) s =
    .next { s with keyWidth := { r := s.keyWidth.r, g := o.widthG, b := o.widthB },
                   keyCenter := { r := s.keyCenter.r, g := o.centerG, b := o.centerB },
                   keyScale := { r := s.keyScale.r, g := o.scaleG, b := o.scaleB } }) ∧
  (∀ (o : KeyROps) (s : State), exec (.setKeyR o) s =
    .next { s with keyWidth := { r := o.widthR, g := s.keyWidth.g, b := s.keyWidth.b },
                   keyCenter := { r := o.centerR, g := s.keyCenter.g, b := s.keyCenter.b },
                   keyScale := { r := o.scaleR, g := s.keyScale.g, b := s.keyScale.b } }) ∧
  (∀ (w0 w1 : Word) (rest : List Word), w0.extractLsb 29 24 = 0x2C →
    decodeWords (w0 :: w1 :: rest) =
      .ok (.setConvert { k0 := w0.extractLsb 21 13, k1 := w0.extractLsb 12 4,
                         k2 := w0.extractLsb 3 0 ++ w1.extractLsb 31 27, k3 := w1.extractLsb 26 18,
                         k4 := w1.extractLsb 17 9, k5 := w1.extractLsb 8 0 }, rest)) ∧
  ∀ (o : ConvertOps) (s : State), exec (.setConvert o) s =
    .next { s with k0 := o.k0, k1 := o.k1, k2 := o.k2, k3 := o.k3, k4 := o.k4, k5 := o.k5 }

/-- The five colour commands: each writes its own register and nothing else (R241 to R245). -/
def Obligations.SetColors : Prop :=
  (∀ (w0 w1 : Word) (rest : List Word),
    let c : Rgba (BitVec 8) :=
      { r := w1.extractLsb 31 24, g := w1.extractLsb 23 16, b := w1.extractLsb 15 8, a := w1.extractLsb 7 0 }
    (w0.extractLsb 29 24 = 0x37 → decodeWords (w0 :: w1 :: rest) = .ok (.setFillColor w1, rest)) ∧
    (w0.extractLsb 29 24 = 0x38 → decodeWords (w0 :: w1 :: rest) = .ok (.setFogColor c, rest)) ∧
    (w0.extractLsb 29 24 = 0x39 → decodeWords (w0 :: w1 :: rest) = .ok (.setBlendColor c, rest)) ∧
    (w0.extractLsb 29 24 = 0x3A → decodeWords (w0 :: w1 :: rest) =
      .ok (.setPrimColor { minLevel := w0.extractLsb 12 8, lodFrac := w0.extractLsb 7 0, color := c }, rest)) ∧
    (w0.extractLsb 29 24 = 0x3B → decodeWords (w0 :: w1 :: rest) = .ok (.setEnvColor c, rest))) ∧
  (∀ (w : Word) (s : State), exec (.setFillColor w) s = .next { s with fillColor := w }) ∧
  (∀ (c : Rgba (BitVec 8)) (s : State), exec (.setFogColor c) s = .next { s with fogColor := c }) ∧
  (∀ (c : Rgba (BitVec 8)) (s : State), exec (.setBlendColor c) s = .next { s with blendColor := c }) ∧
  (∀ (o : PrimColorOps) (s : State), exec (.setPrimColor o) s =
    .next { s with minLevel := o.minLevel, primLodFrac := o.lodFrac, primColor := o.color }) ∧
  ∀ (c : Rgba (BitVec 8)) (s : State), exec (.setEnvColor c) s = .next { s with envColor := c }

/-- The three image commands: each writes its own registers and nothing else; a width is held as the written value plus 1, so
1 to 1024 (R261, R262, R264). -/
def Obligations.SetImages : Prop :=
  (∀ (w0 w1 : Word) (rest : List Word),
    let o : ImageOps :=
      { format := w0.extractLsb 23 21, size := w0.extractLsb 20 19, width := w0.extractLsb 9 0, address := w1.extractLsb 23 0 }
    (w0.extractLsb 29 24 = 0x3F → decodeWords (w0 :: w1 :: rest) = .ok (.setColorImage o, rest)) ∧
    (w0.extractLsb 29 24 = 0x3D → decodeWords (w0 :: w1 :: rest) = .ok (.setTextureImage o, rest)) ∧
    (w0.extractLsb 29 24 = 0x3E → decodeWords (w0 :: w1 :: rest) = .ok (.setZImage (w1.extractLsb 23 0), rest))) ∧
  (∀ (o : ImageOps) (s : State), exec (.setColorImage o) s =
    .next { s with fbFormat := o.format, fbSize := o.size, fbWidth := BitVec.ofNat 11 (o.width.toNat + 1),
                   fbAddress := o.address }) ∧
  (∀ (o : ImageOps) (s : State), exec (.setTextureImage o) s =
    .next { s with tiFormat := o.format, tiSize := o.size, tiWidth := BitVec.ofNat 11 (o.width.toNat + 1),
                   tiAddress := o.address }) ∧
  ∀ (a : BitVec 24) (s : State), exec (.setZImage a) s = .next { s with zbAddress := a }

/-- R267: SET_TILE writes thirteen fields of the tile it names; the extent of that tile, the other seven tiles and everything
else stay. -/
def Obligations.SetTile : Prop :=
  (∀ (w0 w1 : Word) (rest : List Word), w0.extractLsb 29 24 = 0x35 →
    decodeWords (w0 :: w1 :: rest) =
      .ok (.setTile { tile := w1.extractLsb 26 24, format := w0.extractLsb 23 21, size := w0.extractLsb 20 19,
                      line := w0.extractLsb 17 9, tmem := w0.extractLsb 8 0, palette := w1.extractLsb 23 20,
                      ct := w1.getLsbD 19, mt := w1.getLsbD 18, maskT := w1.extractLsb 17 14, shiftT := w1.extractLsb 13 10,
                      cs := w1.getLsbD 9, ms := w1.getLsbD 8, maskS := w1.extractLsb 7 4, shiftS := w1.extractLsb 3 0 },
        rest)) ∧
  ∀ (o : TileOps) (s : State), ∃ t, exec (.setTile o) s = .next t ∧ t = { s with tiles := t.tiles } ∧
    getTile t o.tile =
      { format := o.format, size := o.size, line := o.line, tmem := o.tmem, palette := o.palette, ct := o.ct, mt := o.mt,
        cs := o.cs, ms := o.ms, maskT := o.maskT, maskS := o.maskS, shiftT := o.shiftT, shiftS := o.shiftS,
        sl := (getTile s o.tile).sl, tl := (getTile s o.tile).tl, sh := (getTile s o.tile).sh,
        th := (getTile s o.tile).th } ∧
    ∀ n, n ≠ o.tile → getTile t n = getTile s n

/-- R270: SET_TILE_SIZE writes the extent of the tile it names; its other fields, the other seven tiles and everything else
stay. The clamp differences follow, modulo 1024. -/
def Obligations.SetTileSize : Prop :=
  (∀ (w0 w1 : Word) (rest : List Word), w0.extractLsb 29 24 = 0x32 →
    decodeWords (w0 :: w1 :: rest) =
      .ok (.setTileSize { tile := w1.extractLsb 26 24, sl := w0.extractLsb 23 12, tl := w0.extractLsb 11 0,
                          sh := w1.extractLsb 23 12, th := w1.extractLsb 11 0 }, rest)) ∧
  ∀ (o : TileSizeOps) (s : State), ∃ t, exec (.setTileSize o) s = .next t ∧ t = { s with tiles := t.tiles } ∧
    getTile t o.tile = { getTile s o.tile with sl := o.sl, tl := o.tl, sh := o.sh, th := o.th } ∧
    clampDiffS (getTile t o.tile) = ((o.sh.toNat / 4 : Nat) - (o.sl.toNat / 4 : Nat) : Int) % 1024 ∧
    clampDiffT (getTile t o.tile) = ((o.th.toNat / 4 : Nat) - (o.tl.toNat / 4 : Nat) : Int) % 1024 ∧
    ∀ n, n ≠ o.tile → getTile t n = getTile s n

/-! ## The loads -/

/-- The three loads complete: the extent of the tile they name is written first, then the units of every span are stored in
texture memory one after another; of everything else only the transient span buffer changes (R290 to R297). LOAD_TLUT does so for
one row; the loads that copy nothing have a statement of their own. -/
def Obligations.LoadCompletes : Prop :=
  ∀ (o : TileSizeOps) (s : State), s.tiSize ≠ 0 →
    (∃ t, exec (.loadTile o) s = .next t ∧
      t = { s with tiles := t.tiles, tmem := t.tmem, scratch := { s.scratch with spans := t.scratch.spans } } ∧
      getTile t o.tile = { getTile s o.tile with sl := o.sl, tl := o.tl, sh := o.sh, th := o.th } ∧
      (∀ n, n ≠ o.tile → getTile t n = getTile s n) ∧
      t.tmem = (rectSpans o).foldl
        (loadSpan s (getTile t o.tile) { ds := (0x200 / 2 ^ s.tiSize.toNat : Nat) * 2 ^ 16, dt := 0, quad := false, tlut := false })
        s.tmem) ∧
    (∃ t, exec (.loadBlock o) s = .next t ∧
      t = { s with tiles := t.tiles, tmem := t.tmem, scratch := { s.scratch with spans := t.scratch.spans } } ∧
      getTile t o.tile = { getTile s o.tile with sl := o.sl, tl := o.tl, sh := o.sh, th := o.th } ∧
      (∀ n, n ≠ o.tile → getTile t n = getTile s n) ∧
      t.tmem = (blockSpans o).foldl
        (loadSpan s (getTile t o.tile)
          { ds := (0x80 / 2 ^ s.tiSize.toNat : Nat) * 2 ^ 16, dt := (o.th.toNat * 2 ^ 8 : Nat), quad := true, tlut := false })
        s.tmem) ∧
    (o.th.toNat / 4 ≤ o.tl.toNat / 4 →
      ∃ t, exec (.loadTlut o) s = .next t ∧
        t = { s with tiles := t.tiles, tmem := t.tmem, scratch := { s.scratch with spans := t.scratch.spans } } ∧
        getTile t o.tile = { getTile s o.tile with sl := o.sl, tl := o.tl, sh := o.sh, th := o.th } ∧
        (∀ n, n ≠ o.tile → getTile t n = getTile s n) ∧
        t.tmem = (rectSpans o).foldl
          (loadSpan s (getTile t o.tile) { ds := (0x200 / 2 ^ s.tiSize.toNat : Nat) * 2 ^ 16, dt := 0, quad := true, tlut := true })
          s.tmem)

/-- The loads that copy nothing: a 4-bit texture image, and a LOAD_TLUT of more than one row. The extent is written, texture
memory stays, and the latch is set only under `LOAD_LOCKUP` (R291, R296, R297, R601). -/
def Obligations.LoadRefusals : Prop :=
  (∀ (i : Instr) (s : State), loading i = true → s.tiSize = 0 →
    ∃ t, exec i s = .next t ∧ t.tmem = s.tmem ∧ t.ram = s.ram ∧ t.crashed = (s.crashed || s.cfg.loadLockup)) ∧
  (∀ (o : TileSizeOps) (s : State), o.th.toNat / 4 > o.tl.toNat / 4 →
    ∃ t, exec (.loadTlut o) s = .next t ∧ t.tmem = s.tmem ∧ t.ram = s.ram ∧ t.crashed = (s.crashed || s.cfg.loadLockup)) ∧
  ∀ (i : Instr) (o : TileSizeOps) (s t : State), i = .loadTile o ∨ i = .loadBlock o ∨ i = .loadTlut o →
    exec i s = .next t →
    getTile t o.tile = { getTile s o.tile with sl := o.sl, tl := o.tl, sh := o.sh, th := o.th } ∧
      ∀ n, n ≠ o.tile → getTile t n = getTile s n

/-- What a well-formed LOAD_TILE produces (R303): for a 16-bit image, at any address, and a 16-bit tile that is not YUV, with
a rectangle of `W` by `H` texels with `W` a multiple of 4 and `line = W / 4`, texel (x, y) of the rectangle
is at the halfword the rule names, which is where the fetch function looks for it; every other halfword stays. The rectangle has
to fit in texture memory, and its one row must not be the empty one of R302 (c). -/
def Obligations.LoadTileExact : Prop :=
  ∀ (o : TileSizeOps) (s : State) (w h : Nat),
    tmemWf s = true → s.tiSize = 2 → (getTile s o.tile).size = 2 → (getTile s o.tile).format ≠ 1 →
    o.sl.toNat / 4 ≤ o.sh.toNat / 4 → o.tl.toNat / 4 ≤ o.th.toNat / 4 → o.tl.toNat < o.th.toNat / 4 * 4 + 3 →
    w = o.sh.toNat / 4 - o.sl.toNat / 4 + 1 → h = o.th.toNat / 4 - o.tl.toNat / 4 + 1 → w % 4 = 0 →
    (getTile s o.tile).line.toNat * 4 = w → w * h ≤ 2048 →
    ∃ t, exec (.loadTile o) s = .next t ∧
      (∀ x y : Nat, x < w → y < h →
        let v := texelHalf s ((s.tiAddress.toNat +
          2 * (s.tiWidth.toNat * (o.tl.toNat / 4 + y) + o.sl.toNat / 4 + x) : Nat) : Int)
        let at0 := 4 * ((getTile s o.tile).tmem.toNat + (getTile s o.tile).line.toNat * y) + x
        tmem16 t.tmem ((at0 ^^^ (if y % 2 = 1 then 2 else 0) : Nat) : Int) = v ∧
          halfAt t.tmem 11 (getTile t o.tile) x y = (v.toNat : Int)) ∧
      ∀ u : Nat, u < 2048 →
        (∀ x y : Nat, x < w → y < h →
          u ≠ ((4 * ((getTile s o.tile).tmem.toNat + (getTile s o.tile).line.toNat * y) + x) ^^^
            (if y % 2 = 1 then 2 else 0)) % 2048) →
        tmem16 t.tmem (u : Int) = tmem16 s.tmem (u : Int)

/-- What LOAD_BLOCK stores through a tile whose `line` is 0, for a 16-bit image and a 16-bit tile that is not YUV (R294, R300,
R301): unit `u` goes to 64-bit word `tmem + u`, in order on an even row and with its two 32-bit halves exchanged on an odd one,
the row being `u * DXT / 2048`; every other word stays. That a block starts at texel `SL` also where `SL` is 2048 or more is the
model's reading of R294 against R62's signed `unscrx` (log 14). -/
def Obligations.LoadBlockExact : Prop :=
  ∀ (o : TileSizeOps) (s : State) (n : Nat),
    tmemWf s = true → s.tiSize = 2 → (getTile s o.tile).size = 2 → (getTile s o.tile).format ≠ 1 →
    (getTile s o.tile).line = 0 → o.sl.toNat ≤ o.sh.toNat → n = (o.sh.toNat - o.sl.toNat) / 4 + 1 → n ≤ 512 →
    ∃ t, exec (.loadBlock o) s = .next t ∧
      (∀ u : Nat, u < n →
        let p : Nat := s.tiAddress.toNat + 2 * (s.tiWidth.toNat * (o.tl.toNat % 1024) + o.sl.toNat) + 8 * u
        let h := fun (k : Nat) => texelHalf s ((p + 2 * k : Nat) : Int)
        tmem64 t.tmem (((getTile s o.tile).tmem.toNat + u : Nat) : Int) =
          if u * o.th.toNat / 2048 % 2 = 1 then h 2 ++ h 3 ++ h 0 ++ h 1 else h 0 ++ h 1 ++ h 2 ++ h 3) ∧
      ∀ k : Nat, k < 512 → (∀ u : Nat, u < n → k ≠ ((getTile s o.tile).tmem.toNat + u) % 512) →
        tmem64 t.tmem (k : Int) = tmem64 s.tmem (k : Int)

/-- What LOAD_TLUT stores through a 4-bit tile that is not YUV, from a 16-bit image (R296 to R301): palette entry `k` of the row
fills 64-bit word `tmem + k`, replicated four times when its address is even, with the seven bytes that follow it when it is odd;
every other word stays. -/
def Obligations.LoadTlutExact : Prop :=
  ∀ (o : TileSizeOps) (s : State) (n : Nat),
    tmemWf s = true → s.tiSize = 2 → (getTile s o.tile).size = 0 → (getTile s o.tile).format ≠ 1 →
    o.th.toNat / 4 = o.tl.toNat / 4 → o.tl.toNat < o.th.toNat / 4 * 4 + 3 → o.sl.toNat / 4 ≤ o.sh.toNat / 4 → n = o.sh.toNat / 4 - o.sl.toNat / 4 + 1 → n ≤ 512 →
    ∃ t, exec (.loadTlut o) s = .next t ∧
      (∀ k : Nat, k < n →
        let p : Nat := s.tiAddress.toNat + 2 * (s.tiWidth.toNat * (o.tl.toNat / 4) + o.sl.toNat / 4 + k)
        let h := fun (m : Nat) => texelHalf s ((p + m : Nat) : Int)
        tmem64 t.tmem (((getTile s o.tile).tmem.toNat + k : Nat) : Int) =
          if p % 2 = 0 then h 0 ++ h 0 ++ h 0 ++ h 0 else h 0 ++ h 2 ++ h 4 ++ h 6) ∧
      ∀ j : Nat, j < 512 → (∀ k : Nat, k < n → j ≠ ((getTile s o.tile).tmem.toNat + k) % 512) →
        tmem64 t.tmem (j : Int) = tmem64 s.tmem (j : Int)

/-! ## The drawing commands -/

/-- A drawing command completes, unless it raises `Crashed`: the pipeline the cycle type selects renders the primitive of its
block, and the next state differs only in main memory with its hidden bits, `noise_seed`, `max_level` and the transient state
(R320, R362, R395). `max_level` is the LEVEL of a triangle's header, and 0 for a rectangle. -/
def Obligations.DrawCompletes : Prop :=
  (∀ (i : Instr) (s : State), drawing i = true → raises s i = false →
    ∃ pipe, renderBlock s (blockOf s.mode.cycleType i) = some pipe ∧
      exec i s = .next { s with maxLevel := (primOf s i).level, ram := pipe.ram, noiseSeed := pipe.seed,
                                scratch := { ew := blockOf s.mode.cycleType i, consts := spanConsts (primOf s i),
                                             spans := walkSpans s (primOf s i), cvgbuf := pipe.cvgbuf,
                                             pixel := pipe.pixel } }) ∧
  (∀ (i : Instr) (s : State) (e : TriEdges) (c : ShadeBlock) (x : TexBlock) (z : ZBlock), triParts i = some (e, c, x, z) →
    (primOf s i).level = e.level) ∧
  ∀ (i : Instr) (s : State), drawing i = true → triParts i = none → (primOf s i).level = 0

/-- `Crashed` is raised by a drawing command into a 4-bit image in fill or copy mode, even if no scanline is valid, under the
parameters by the cases R601 adds, and by nothing else; it is never cleared by a command. A drawing command that raises it has
written the block, the spans and `max_level`, and not a byte of memory, not a hidden bit, not `noise_seed`; a load that raises it
has written its extent and not texture memory (R601, R602). -/
def Obligations.CrashedExactly : Prop :=
  (∀ (i : Instr) (s t : State), exec i s = .next t →
    (t.crashed = true ↔ s.crashed = true ∨
      (drawing i = true ∧ s.fbSize = 0 ∧ (s.mode.cycleType = .fill ∨ s.mode.cycleType = .copy)) ∨
      (drawing i = true ∧ s.fbSize = 3 ∧ s.mode.cycleType = .copy ∧ s.cfg.copy32Lockup = true) ∨
      (loading i = true ∧ s.tiSize = 0 ∧ s.cfg.loadLockup = true) ∨
      (s.cfg.loadLockup = true ∧ ∃ o : TileSizeOps, i = .loadTlut o ∧ o.th.toNat / 4 > o.tl.toNat / 4))) ∧
  (∀ (i : Instr) (s : State), drawing i = true → raises s i = true →
    exec i s = .next { s with crashed := true, maxLevel := (primOf s i).level,
                              scratch := { s.scratch with ew := blockOf s.mode.cycleType i, consts := spanConsts (primOf s i),
                                                          spans := walkSpans s (primOf s i) } }) ∧
  ∀ (i : Instr) (o : TileSizeOps) (s t : State), i = .loadTile o ∨ i = .loadBlock o ∨ i = .loadTlut o → raises s i = true →
    exec i s = .next t →
    t.tmem = s.tmem ∧ t.ram = s.ram ∧
      getTile t o.tile = { getTile s o.tile with sl := o.sl, tl := o.tl, sh := o.sh, th := o.th }

/-- A drawing command stores only to the colour and depth pixels it visits: every other byte of main memory and every other
hidden-bits entry is as before. With `z_update_en` clear, and in fill and copy mode, no depth byte is among them. -/
def Obligations.DrawFrame : Prop :=
  ∀ (i : Instr) (s t : State), drawing i = true → ramWf s = true → exec i s = .next t →
    (∀ a : Nat, a ∉ storedBytes s i → memByte t.ram a = memByte s.ram a) ∧
    ∀ u : Nat, 2 * u + 1 ∉ storedBytes s i → hidEntry s.cfg t.ram u = hidEntry s.cfg s.ram u

/-- Fill mode (R580, R598 (g)): every pixel visited gets the part of `fill_color` that its place in memory selects, and nothing
is read: `noise_seed` and the coverage buffer stay. The value of a pixel, by the size of the image. Copy mode leaves the same
alone, but for the threshold draws of R587, and writes nothing into a 32-bit image unless `COPY32_LOCKUP` makes that a fault
(R585). That the working colours and signals of a pixel (`scratch.pixel`) stay in both modes is the model's choice (log 23), no
rule's. -/
def Obligations.FillAndCopyMode : Prop :=
  (∀ (i : Instr) (s : State), drawing i = true → s.mode.cycleType = .copy → raises s i = false →
    ∃ t, exec i s = .next t ∧ t.crashed = s.crashed ∧ t.scratch.cvgbuf = s.scratch.cvgbuf ∧
      t.scratch.pixel = s.scratch.pixel ∧ (s.fbSize = 3 → t.ram = s.ram ∧ t.noiseSeed = s.noiseSeed) ∧
      (¬ (s.mode.alphaCompareEn = true ∧ s.mode.ditherAlphaEn = true ∧ s.fbSize = 1) → t.noiseSeed = s.noiseSeed)) ∧
  (∀ (i : Instr) (s : State), drawing i = true → s.mode.cycleType = .fill → s.fbSize ≠ 0 →
    ∃ t, exec i s = .next t ∧
      t.ram = (pixelsOf s i).foldl (fun ram xy => fbFill s ram ((s.fbWidth.toNat : Int) * xy.2 + xy.1)) s.ram ∧
      t.noiseSeed = s.noiseSeed ∧ t.crashed = s.crashed ∧ t.scratch.cvgbuf = s.scratch.cvgbuf ∧
      t.scratch.pixel = s.scratch.pixel) ∧
  (∀ (s : State) (ram : Ram) (p : Int), s.fbSize = 1 →
    let a : Int := (s.fbAddress.toNat : Int) + p
    let v : Byte := (s.fillColor >>> (8 * (3 - (a % 4).toNat))).setWidth 8
    fbFill s ram p = pairWr8 s.cfg ram a v (if v.getLsbD 0 then 3 else 0)) ∧
  (∀ (s : State) (ram : Ram) (p : Int), s.fbSize = 2 →
    let u : Int := ((s.fbAddress.toNat / 2 : Nat) : Int) + p
    let v : Half := if u % 2 = 1 then s.fillColor.extractLsb 15 0 else s.fillColor.extractLsb 31 16
    fbFill s ram p = pairWr16 s.cfg ram u v (if v.getLsbD 0 then 3 else 0)) ∧
  ∀ (s : State) (ram : Ram) (p : Int), s.fbSize = 3 →
    fbFill s ram p = pairWr32 s.cfg ram (((s.fbAddress.toNat / 4 : Nat) : Int) + p) s.fillColor
      (if s.fillColor.getLsbD 16 then 3 else 0) (if s.fillColor.getLsbD 0 then 3 else 0)

/-- The property of fill rectangles (R597, R390), for a 16-bit image: inside the scissor exactly the pixels of columns `XH >> 2` to
`XL >> 2` and rows `YH >> 2` to `YL >> 2` are written, width times height of them, each with the half of `fill_color` that its
halfword index selects and hidden bits by its bit 0; every other byte and hidden-bits entry stays. The rectangle must have a
valid sub-scanline in its last row, which fails only when `YH = YL` is the last quarter of a row: there the model, which follows
the walk, draws nothing (log 20). -/
def Obligations.FillRectangleExact : Prop :=
  ∀ (o : RectOps) (s : State),
    ramWf s = true → s.mode.cycleType = .fill → s.fbSize = 2 → s.scfield = false →
    o.xh.toNat ≤ o.xl.toNat → o.yh.toNat ≤ o.yl.toNat → s.clipXh.toNat ≤ o.xh.toNat → o.xl.toNat < s.clipXl.toNat →
    s.clipYh.toNat ≤ o.yh.toNat → o.yl.toNat < s.clipYl.toNat → o.yh.toNat < o.yl.toNat / 4 * 4 + 3 →
    let inside := fun (x y : Int) => ((o.xh.toNat / 4 : Nat) : Int) ≤ x ∧ x ≤ ((o.xl.toNat / 4 : Nat) : Int) ∧
      ((o.yh.toNat / 4 : Nat) : Int) ≤ y ∧ y ≤ ((o.yl.toNat / 4 : Nat) : Int)
    let place := fun (x y : Int) => ((s.fbAddress.toNat / 2 : Nat) : Int) + ((s.fbWidth.toNat : Int) * y + x)
    ∃ t, exec (.fillRectangle o) s = .next t ∧
      (pixelsOf s (.fillRectangle o)).length =
        (o.xl.toNat / 4 - o.xh.toNat / 4 + 1) * (o.yl.toNat / 4 - o.yh.toNat / 4 + 1) ∧
      (∀ x y, (x, y) ∈ pixelsOf s (.fillRectangle o) ↔ inside x y) ∧
      (∀ x y, inside x y → (place x y).toNat < memSize s.cfg / 2 →
        let v : Half := if place x y % 2 = 1 then s.fillColor.extractLsb 15 0 else s.fillColor.extractLsb 31 16
        pairRd16 s.cfg t.ram (place x y) = (v, if v.getLsbD 0 then 3 else 0)) ∧
      ∀ u : Nat, (∀ x y, inside x y → (u : Int) ≠ place x y) →
        memByte t.ram (2 * u) = memByte s.ram (2 * u) ∧ memByte t.ram (2 * u + 1) = memByte s.ram (2 * u + 1) ∧
          hidEntry s.cfg t.ram u = hidEntry s.cfg s.ram u

/-- What the walker reads of a triangle's operands, through the block with its absent parts zero (R321, R322, R323, R361,
R363): the coordinates as signed quarter scanlines, the positions in 28 bits, the slopes in 30, the raw sign bit of `DxHDy`, and
the thirty-two attribute words signed. The cycle type and the opcode play no part. -/
def Obligations.TriangleBlock : Prop :=
  ∀ (i : Instr) (s : State) (e : TriEdges) (c : ShadeBlock) (x : TexBlock) (z : ZBlock), triParts i = some (e, c, x, z) →
    let q := primOf s i
    q.flip = e.flip ∧ q.level = e.level ∧ q.tile = e.tile ∧ q.yl = e.yl.toInt ∧ q.ym = e.ym.toInt ∧ q.yh = e.yh.toInt ∧
    q.xl = (e.xl.extractLsb 27 0).toInt ∧ q.xh = (e.xh.extractLsb 27 0).toInt ∧ q.xm = (e.xm.extractLsb 27 0).toInt ∧
    q.dxldy = (e.dxldy.extractLsb 29 0).toInt ∧ q.dxhdy = (e.dxhdy.extractLsb 29 0).toInt ∧
    q.dxmdy = (e.dxmdy.extractLsb 29 0).toInt ∧ q.signDxhdy = e.dxhdy.getLsbD 31 ∧
    q.base = { r := c.base.r.toInt, g := c.base.g.toInt, b := c.base.b.toInt, a := c.base.a.toInt, s := x.base.s.toInt,
               t := x.base.t.toInt, w := x.base.w.toInt, z := z.z.toInt } ∧
    q.dx = { r := c.dx.r.toInt, g := c.dx.g.toInt, b := c.dx.b.toInt, a := c.dx.a.toInt, s := x.dx.s.toInt,
             t := x.dx.t.toInt, w := x.dx.w.toInt, z := z.dzdx.toInt } ∧
    q.de = { r := c.de.r.toInt, g := c.de.g.toInt, b := c.de.b.toInt, a := c.de.a.toInt, s := x.de.s.toInt,
             t := x.de.t.toInt, w := x.de.w.toInt, z := z.dzde.toInt } ∧
    q.dy = { r := c.dy.r.toInt, g := c.dy.g.toInt, b := c.dy.b.toInt, a := c.dy.a.toInt, s := x.dy.s.toInt,
             t := x.dy.t.toInt, w := x.dy.w.toInt, z := z.dzdy.toInt }

/-- The primitive of the three rectangle commands (R334, R335, R336, R338): walked with x increasing, edges vertical, `YM = YL`,
the bottom rounded up in copy and fill mode; TEXTURE_RECTANGLE steps `S` by `DsDx` along x and `T` by `DtDy` per scanline,
TEXTURE_RECTANGLE_FLIP the other way round, and every other attribute is 0. -/
def Obligations.RectangleBlock : Prop :=
  let flat : Attr8 Int := Attr8.same 0
  let edges := fun (s : State) (o : RectOps) (q : Primitive) =>
    q.flip = true ∧ q.level = 0 ∧ q.yl = bottomOf s.mode.cycleType o.yl ∧ q.ym = bottomOf s.mode.cycleType o.yl ∧
      q.yh = (o.yh.toNat : Int) ∧ q.xl = ((o.xl.toNat * 2 ^ 14 : Nat) : Int) ∧ q.xm = ((o.xl.toNat * 2 ^ 14 : Nat) : Int) ∧
      q.xh = ((o.xh.toNat * 2 ^ 14 : Nat) : Int) ∧ q.dxldy = 0 ∧ q.dxhdy = 0 ∧ q.dxmdy = 0 ∧ q.signDxhdy = false
  (∀ (o : TexRectOps) (s : State),
    let q := primOf s (.textureRectangle o)
    edges s o.rect q ∧ q.tile = o.tile ∧
      q.base = { flat with s := o.s.toInt * 2 ^ 16, t := o.t.toInt * 2 ^ 16 } ∧
      q.dx = { flat with s := o.dsdx.toInt * 2 ^ 11 } ∧ q.de = { flat with t := o.dtdy.toInt * 2 ^ 11 } ∧
      q.dy = { flat with t := o.dtdy.toInt * 2 ^ 11 }) ∧
  (∀ (o : TexRectOps) (s : State),
    let q := primOf s (.textureRectangleFlip o)
    edges s o.rect q ∧ q.tile = o.tile ∧
      q.base = { flat with s := o.s.toInt * 2 ^ 16, t := o.t.toInt * 2 ^ 16 } ∧
      q.dx = { flat with t := o.dtdy.toInt * 2 ^ 11 } ∧ q.de = { flat with s := o.dsdx.toInt * 2 ^ 11 } ∧
      q.dy = { flat with s := o.dsdx.toInt * 2 ^ 11 }) ∧
  ∀ (o : RectOps) (s : State),
    let q := primOf s (.fillRectangle o)
    edges s o q ∧ q.tile = 0 ∧ q.base = flat ∧ q.dx = flat ∧ q.de = flat ∧ q.dy = flat

/-- An empty or inverted scissor, the reset state among them, draws nothing (R392 (e)): no pixel is visited, and memory and
`noise_seed` stay. -/
def Obligations.EmptyScissor : Prop :=
  ∀ (i : Instr) (s : State), drawing i = true → s.clipXl.toNat ≤ s.clipXh.toNat →
    pixelsOf s i = [] ∧ ∃ t, exec i s = .next t ∧ t.ram = s.ram ∧ t.noiseSeed = s.noiseSeed

/-- The scissor confines what is drawn (R372, R380, R384, R389, R396): every pixel a drawing command visits lies in the columns
and rows of the scissor, in a row of the span buffer, and with the interlace field on in a row of the parity that is kept. -/
def Obligations.ScissorConfines : Prop :=
  ∀ (i : Instr) (s : State) (x y : Int), drawing i = true → (x, y) ∈ pixelsOf s i →
    ((s.clipXh.toNat / 4 : Nat) : Int) ≤ x ∧ x ≤ ((s.clipXl.toNat / 4 : Nat) : Int) ∧
    ((s.clipYh.toNat / 4 : Nat) : Int) ≤ y ∧ y ≤ ((s.clipYl.toNat / 4 : Nat) : Int) ∧ 0 ≤ y ∧ y < 1024 ∧
    (s.scfield = true → y % 2 = if s.sckeepodd then 1 else 0)

/-- Each pixel is visited at most once by a primitive (R651). -/
def Obligations.PixelsOnce : Prop := ∀ (i : Instr) (s : State), drawing i = true → (pixelsOf s i).Nodup

/-- A pixel that fails the depth compare, the alpha compare or the coverage test writes nothing, and the depth buffer is written
by drawn pixels with `z_update_en` only (R545, R548, R500, R520, R590). The noise draws it makes are those of R507: one, a second
with `rgb_dither_sel = 2`, and a third for the threshold if it passed the depth compare. With the default `NOISE` a draw is that of
R507. -/
def Obligations.DroppedPixel : Prop :=
  (∀ (s : State) (two : Bool) (e : PrimEnv) (pipe : Pipe) (px : PixelAt),
    let w := pixelWork s two e px pipe.seed
    let fb := fbRead s pipe.ram (pixelIndex s px.x px.y)
    let d := zCompare s pipe.ram (depthIn s e px w fb)
    let r := renderPixel s two e pipe px
    let s1 := (rand s pipe.seed).seed
    let s2 := if s.mode.rgbDitherSel = 2 then (rand s s1).seed else s1
    (d.pass = false → r.ram = pipe.ram) ∧
    (s.mode.alphaCompareEn = true → s.mode.ditherAlphaEn = false → w.comb.pixel.a < (s.blendColor.a.toNat : Int) →
      r.ram = pipe.ram) ∧
    (s.mode.antialiasEn = true → d.cvg = 0 → r.ram = pipe.ram) ∧
    (s.mode.antialiasEn = false → px.mask.getLsbD 7 = false → r.ram = pipe.ram) ∧
    (r.seed = if d.pass = true ∧ s.mode.alphaCompareEn = true ∧ s.mode.ditherAlphaEn = true then (rand s s2).seed else s2)) ∧
  ∀ (s : State) (seed : BitVec 32), s.cfg.noise = .default →
    (rand s seed).seed = seed * 0x343fd + 0x269ec3 ∧
      (rand s seed).value = (((seed * 0x343fd + 0x269ec3).extractLsb 30 16).toNat : Int)

/-! ## Memory -/

/-- Bytes, halfwords and words of main memory (R82 to R85, R89): what is written is read back when it is in range, most
significant byte at the lowest address, and changes no other byte; out of range a read gives 0 and a write is dropped; a negative
index is out of range. -/
def Obligations.MemoryReadWrite : Prop :=
  ∀ (cfg : Config) (ram : Ram), ramOk cfg ram = true → cfg.memBits ≤ 32 →
    (∀ (u : Nat) (v : Byte), u < memSize cfg →
      rd8 cfg (wr8 cfg ram u v) u = v ∧ ∀ a, a ≠ u → memByte (wr8 cfg ram u v) a = memByte ram a) ∧
    (∀ (u : Nat) (v : Half), u < memSize cfg / 2 →
      rd16 cfg (wr16 cfg ram u v) u = v ∧ memByte (wr16 cfg ram u v) (2 * u) = v.extractLsb 15 8 ∧
        memByte (wr16 cfg ram u v) (2 * u + 1) = v.extractLsb 7 0 ∧
        ∀ a, a / 2 ≠ u → memByte (wr16 cfg ram u v) a = memByte ram a) ∧
    (∀ (u : Nat) (v : Word), u < memSize cfg / 4 →
      rd32 cfg (wr32 cfg ram u v) u = v ∧ memByte (wr32 cfg ram u v) (4 * u) = v.extractLsb 31 24 ∧
        memByte (wr32 cfg ram u v) (4 * u + 1) = v.extractLsb 23 16 ∧
        memByte (wr32 cfg ram u v) (4 * u + 2) = v.extractLsb 15 8 ∧
        memByte (wr32 cfg ram u v) (4 * u + 3) = v.extractLsb 7 0 ∧
        ∀ a, a / 4 ≠ u → memByte (wr32 cfg ram u v) a = memByte ram a) ∧
    ∀ (a : Int) (v8 : Byte) (v16 : Half) (v32 : Word),
      ((memSize cfg : Int) ≤ a % 2 ^ 32 → rd8 cfg ram a = 0 ∧ wr8 cfg ram a v8 = ram) ∧
      (((memSize cfg / 2 : Nat) : Int) ≤ a % 2 ^ 32 → rd16 cfg ram a = 0 ∧ wr16 cfg ram a v16 = ram) ∧
      (((memSize cfg / 4 : Nat) : Int) ≤ a % 2 ^ 32 → rd32 cfg ram a = 0 ∧ wr32 cfg ram a v32 = ram)

/-- The pair primitives (R87): a value and its hidden bits travel together under one bounds test; a byte write touches the hidden
bits of its halfword only when the byte is the odd one; every other hidden-bits entry stays. -/
def Obligations.PairPrimitives : Prop :=
  ∀ (cfg : Config) (ram : Ram), ramOk cfg ram = true → 1 ≤ cfg.memBits → cfg.memBits ≤ 32 →
    (∀ (u : Nat) (v : Half) (h : BitVec 2), u < memSize cfg / 2 →
      pairRd16 cfg (pairWr16 cfg ram u v h) u = (v, h) ∧
        ∀ k, k % 2 ^ 32 ≠ u → pairRd16 cfg (pairWr16 cfg ram u v h) (k : Int) = pairRd16 cfg ram (k : Int)) ∧
    (∀ (u : Nat) (v : Word) (h0 h1 : BitVec 2), u < memSize cfg / 4 →
      pairRd16 cfg (pairWr32 cfg ram u v h0 h1) ((2 * u : Nat) : Int) = (v.extractLsb 31 16, h0) ∧
        pairRd16 cfg (pairWr32 cfg ram u v h0 h1) ((2 * u + 1 : Nat) : Int) = (v.extractLsb 15 0, h1) ∧
        ∀ k, k / 2 ≠ u → hidEntry cfg (pairWr32 cfg ram u v h0 h1) k = hidEntry cfg ram k) ∧
    (∀ (u : Nat) (v : Byte) (h : BitVec 2), u < memSize cfg →
      memByte (pairWr8 cfg ram u v h) u = v ∧ (∀ a, a ≠ u → memByte (pairWr8 cfg ram u v h) a = memByte ram a) ∧
        hidEntry cfg (pairWr8 cfg ram u v h) (u / 2) = (if u % 2 = 1 then h else hidEntry cfg ram (u / 2)) ∧
        ∀ k, k ≠ u / 2 → hidEntry cfg (pairWr8 cfg ram u v h) k = hidEntry cfg ram k) ∧
    ∀ (a : Int) (v8 : Byte) (v16 : Half) (v32 : Word) (h h' : BitVec 2),
      ((memSize cfg : Int) ≤ a % 2 ^ 32 → pairWr8 cfg ram a v8 h = ram) ∧
      (((memSize cfg / 2 : Nat) : Int) ≤ a % 2 ^ 32 → pairRd16 cfg ram a = (0, 0) ∧ pairWr16 cfg ram a v16 h = ram) ∧
      (((memSize cfg / 4 : Nat) : Int) ≤ a % 2 ^ 32 → pairWr32 cfg ram a v32 h h' = ram)

/-- The three views of texture memory are views of the same bytes, big-endian, with indices that wrap (R95); the alternate
source wraps at 1024 words (R97). -/
def Obligations.MemoryViews : Prop :=
  (∀ (m : Cells Byte) (i : Int), tmem16 m i = tmem8 m (2 * i) ++ tmem8 m (2 * i + 1)) ∧
  (∀ (m : Cells Byte) (w : Int), tmem64 m w =
    tmem8 m (8 * w) ++ tmem8 m (8 * w + 1) ++ tmem8 m (8 * w + 2) ++ tmem8 m (8 * w + 3) ++ tmem8 m (8 * w + 4) ++
      tmem8 m (8 * w + 5) ++ tmem8 m (8 * w + 6) ++ tmem8 m (8 * w + 7)) ∧
  (∀ (m : Cells Byte) (a : Int), tmem8 m (a + 4096) = tmem8 m a ∧ tmem16 m (a + 2048) = tmem16 m a ∧
    tmem64 m (a + 512) = tmem64 m a) ∧
  (∀ (m : Cells Byte) (i j : Int) (v : Half), Cells.wf (0 : Byte) 4096 m = true →
    tmem16 (setTmem16 m i v) j = if i % 2048 = j % 2048 then v else tmem16 m j) ∧
  ∀ (m : Cells Word) (k : Nat), xmemWord m (k + 1024) = xmemWord m k

/-! ## Depth -/

/-- R532, R535: decompression, that it rises strictly with the 14-bit code, that compression after decompression is the identity
on codes, that a round trip is idempotent, never rises, and loses exactly the bits the bucket drops, and the spec's fifteen
values. -/
def Obligations.DepthCode : Prop :=
  (∀ zh : Nat, zh < 2 ^ 16 → zDecompress zh =
    (zh / 4 % 2 ^ 11 * 2 ^ ([6, 5, 4, 3, 2, 1, 0, 0].getD (zh / 2 ^ 13) 0) +
      [0x00000, 0x20000, 0x30000, 0x38000, 0x3c000, 0x3e000, 0x3f000, 0x3f800].getD (zh / 2 ^ 13) 0) % 2 ^ 18) ∧
  (∀ c d : Nat, c < d → d < 2 ^ 14 → zDecompress (4 * c) < zDecompress (4 * d)) ∧
  (∀ c : Nat, c < 2 ^ 14 → zCompress (zDecompress (4 * c)) = 4 * c) ∧
  (∀ z : Nat, z < 2 ^ 18 →
    zCompress (zDecompress (zCompress z)) = zCompress z ∧ zDecompress (zCompress z) ≤ z ∧
      (zDecompress (zCompress z) = z ↔ z % 2 ^ zShift (zCompress z / 2 ^ 13) = 0)) ∧
  ∀ row ∈ [(0x00000, 0x0000, 0x00000), (0x0003f, 0x0000, 0x00000), (0x00040, 0x0004, 0x00040), (0x12345, 0x1234, 0x12340),
      (0x1ffff, 0x1ffc, 0x1ffc0), (0x20000, 0x2000, 0x20000), (0x2ffff, 0x3ffc, 0x2ffe0), (0x30000, 0x4000, 0x30000)] ++
    [(0x3bfff, 0x7ffc, 0x3bff8), (0x3c000, 0x8000, 0x3c000), (0x3e000, 0xa000, 0x3e000), (0x3f000, 0xc000, 0x3f000),
      (0x3f7ff, 0xdffc, 0x3f7ff), (0x3f800, 0xe000, 0x3f800), (0x3ffff, 0xfffc, 0x3ffff)],
    zCompress row.1 = row.2.1 ∧ zDecompress row.2.1 = row.2.2

/-- The delta-Z code (R533): of a power of two its exponent, of any value the OR of the bit positions that are set; the delta-Z of
a primitive is a power of two or 3 (R367). -/
def Obligations.DeltaZ : Prop :=
  (∀ c : Nat, c < 16 → dzCompress (2 ^ c) = c) ∧
  (∀ v : Nat, v < 2 ^ 16 →
    dzCompress v = (List.range 16).foldl (fun acc k => if v.testBit k then acc ||| k else acc) 0) ∧
  ∀ q : Primitive, spansDzPix q = 3 ∨ ∃ c : Nat, c < 16 ∧ spansDzPix q = ((2 ^ c : Nat) : Int)

/-- A depth write is read back (R531, R548): the code of the depth, and the four bits of the encoded delta-Z across the halfword and
its hidden bits; the depth that comes back is at most the depth stored. -/
def Obligations.DepthReadBack : Prop :=
  ∀ (cfg : Config) (ram : Ram) (zi : Int) (sz dz : Nat), ramOk cfg ram = true → zi % 2 ^ 32 < ((memSize cfg / 2 : Nat) : Int) →
    sz < 2 ^ 18 → dz < 16 →
    let r := pairRd16 cfg (zStore cfg ram zi sz dz) zi
    r.1.toNat / 4 * 4 = zCompress sz ∧ r.1.toNat % 4 * 4 + r.2.toNat = dz ∧ zDecompress r.1.toNat = zDecompress (zCompress sz) ∧
      zDecompress r.1.toNat ≤ sz

/-- The Z modes (R543, R545): with the compare off every pixel passes; the cleared depth accepts every opaque pixel; transparent
surfaces pass exactly when strictly in front or on the cleared depth; decals never pass on the cleared depth and only within the
widened tolerance on both sides; only interpenetrating surfaces change the coverage. -/
def Obligations.DepthModes : Prop :=
  ∀ (s : State) (ram : Ram) (i : DepthIn),
    let zh : Nat := (pairRd16 s.cfg ram i.zi).1.toNat
    let raw : Nat := zh % 4 * 4 + (pairRd16 s.cfg ram i.zi).2.toNat
    let oz : Int := (zDecompress zh : Int)
    let sz : Int := i.sz % 2 ^ 18
    let d := zCompare s ram i
    (s.mode.zCompareEn = false → d.pass = true ∧ d.cvg = i.cvg) ∧
    (s.mode.zCompareEn = true → s.mode.zMode = .opaqueSurface → oz = 0x3ffff → d.pass = true) ∧
    (s.mode.zCompareEn = true → s.mode.zMode = .transparent → (d.pass = true ↔ sz < oz ∨ oz = 0x3ffff)) ∧
    (s.mode.zCompareEn = true → s.mode.zMode = .decal → d.pass = true → oz ≠ 0x3ffff ∧
      ∀ stored, storedDz (zh / 2 ^ 13) raw = some stored →
        sz - ((highBit (i.dzpix ||| stored) * 8 : Nat) : Int) ≤ oz ∧
          oz ≤ sz + ((highBit (i.dzpix ||| stored) * 8 : Nat) : Int)) ∧
    (s.mode.zMode ≠ .interpenetrating → d.cvg = i.cvg)

/-! ## Coverage -/

/-- R553, R556, R558: the samples a sub-scanline owns and where they stand in the mask byte, the partial masks of an edge, and
what is derived from a mask byte. Bit 7 to bit 0 of a mask are the samples
(sub-scanline, column) (0,0) (1,1) (0,2) (1,3) (2,0) (3,1) (2,2) (3,3). -/
def Obligations.CoverageMasks : Prop :=
  let column := fun (b : Nat) => [3, 2, 1, 0, 3, 2, 1, 0].getD b 0
  let line := fun (b : Nat) => [3, 2, 3, 2, 1, 0, 1, 0].getD b 0
  (∀ i : Nat, i < 4 → fmask i = 0xa >>> (i % 2) ∧ maskShift i = [4, 4, 0, 0].getD i 0 ∧
    ∀ b : Nat, b < 8 → ((placeMask (fmask i) i).getLsbD b = true ↔ line b = i) ∧ b = maskShift (line b) + 3 - column b) ∧
  (∀ (x : BitVec 13) (i k : Nat), i < 4 → k < 4 →
    ((leftCvg x i).getLsbD (3 - k) = true ↔ k % 2 = i % 2 ∧ (x.toNat % 8 + 1) / 2 ≤ k) ∧
    ((rightCvg x i).getLsbD (3 - k) = true ↔ k % 2 = i % 2 ∧ k < (x.toNat % 8 + 1) / 2)) ∧
  (∀ m : Byte, (coverOf m).cvg = (((List.range 8).map fun b => (m.getLsbD b).toNat).sum : Nat) ∧
    (coverOf m).cvbit = m.getLsbD 7 ∧ (m = 0 → (coverOf m).offx = 0 ∧ (coverOf m).offy = 0) ∧
    (m ≠ 0 → ∃ b : Nat, b < 8 ∧ m.getLsbD b = true ∧ line b = (coverOf m).offy ∧ column b = (coverOf m).offx ∧
      ∀ b' : Nat, b' < 8 → m.getLsbD b' = true → line b < line b' ∨ (line b = line b' ∧ column b ≤ column b'))) ∧
  coverOf 0xff = { cvg := 8, cvbit := true, offx := 0, offy := 0 } ∧
  coverOf 0x00 = { cvg := 0, cvbit := false, offx := 0, offy := 0 } ∧
  coverOf 0x0f = { cvg := 4, cvbit := false, offx := 0, offy := 2 } ∧
  coverOf 0x50 = { cvg := 2, cvbit := false, offx := 1, offy := 1 } ∧
  coverOf 0x01 = { cvg := 1, cvbit := false, offx := 3, offy := 3 } ∧
  coverOf 0x20 = { cvg := 1, cvbit := false, offx := 2, offy := 0 }

/-- The coverage-centre correction (R557): a colour component comes out in 0 to 255 and a depth in 18 bits, whatever goes in; a
fully covered pixel is sampled at its corner, a depth below 2^20 in the upper 22 bits unchanged by the clamp. -/
def Obligations.CorrectionRange : Prop :=
  (∀ (c : Cover) (v cd dy : Int), 0 ≤ correctColor c v cd dy ∧ correctColor c v cd dy ≤ 255) ∧
  (∀ (e : Centre) (c : Cover) (z : Int), 0 ≤ correctDepth e c z ∧ correctDepth e c z < 2 ^ 18) ∧
  (∀ (c : Cover) (v cd dy : Int), c.cvg = 8 → 0 ≤ v → v < 1024 → correctColor c v cd dy = v / 4) ∧
  ∀ (e : Centre) (c : Cover) (z : Int), c.cvg = 8 → 0 ≤ z → z < 2 ^ 31 → correctDepth e c z = z / 2 ^ 13

/-! ## Texture, combiner and framebuffer -/

/-- R424: mask 0 passes a coordinate unchanged whatever the mirror bit is; mask `N` confines it below `2^N` (below `2^10` from 10
on); without mirror it wraps, with mirror every second repetition is reversed. -/
def Obligations.MaskMirror : Prop :=
  ∀ (v : Int) (m : BitVec 4) (mir : Bool),
    let n := min m.toNat 10
    (m = 0 → tcMask v m mir = v) ∧
    (m ≠ 0 → 0 ≤ tcMask v m mir ∧ tcMask v m mir < 2 ^ n ∧ tcMask v m mir < 2 ^ m.toNat) ∧
    (m ≠ 0 → mir = false → tcMask v m mir = v % 2 ^ n) ∧
    (m ≠ 0 → mir = true → tcMask v m mir = if v / 2 ^ n % 2 = 0 then v % 2 ^ n else 2 ^ n - 1 - v % 2 ^ n)

/-- A flat texture is reproduced exactly, filtered or not, whatever the fractions (R465): if every texel the tile can give has one
colour, the texture cycle answers that colour as 9-bit components. -/
def Obligations.FlatTexture : Prop :=
  ∀ (s : State) (n : BitVec 3) (cycle1 : Bool) (sss sst : Int) (prev c : Rgba Int),
    (∀ q x y, fetchTexel s (getTile s n) q x y = c) → (if cycle1 then s.mode.biLerp1 else s.mode.biLerp0) = true →
    (s.mode.convertOne && cycle1) = false →
    texCycle s n cycle1 sss sst prev = { r := c.r % 512, g := c.g % 512, b := c.b % 512, a := c.a % 512 }

/-- R473, R474: the special 9-bit extension stands for -128 to 383, and the clamp is that extension clamped to 0 to 255. Two-cycle
mode with a pass-through second stage gives what one-cycle mode gives (R488), for the same per-pixel sources and `key_en` 0. -/
def Obligations.CombinerIdentity : Prop :=
  (∀ v : Int, -128 ≤ ext9 v ∧ ext9 v ≤ 383 ∧ (ext9 v - v) % 512 = 0 ∧ clamp9 v = max 0 (min (ext9 v) 255)) ∧
  ∀ (s : State) (c d : CombineSet) (i : CombineIn) (next : Rgba Int) (adith cvg : Int), s.mode.keyEn = false →
    combiner2 { s with combine :=
        { c0 := c, c1 := { subARgb := 8, subBRgb := 8, mulRgb := 16, addRgb := 0, subAA := 7, subBA := 7, mulA := 7,
                           addA := 0 } } } i next adith cvg =
      combiner1 { s with combine := { c0 := d, c1 := c } } i adith cvg

/-- R575: the coverage written with a pixel. -/
def Obligations.FinalCoverage : Prop :=
  ∀ (s : State) (blend : Bool) (cvg memcvg : Int), 0 ≤ cvg → cvg ≤ 8 → 0 ≤ memcvg → memcvg ≤ 7 →
    let f := (finalCvg s blend cvg memcvg).toNat
    (s.mode.cvgDest = .clamp → blend = false → (f : Int) = if cvg = 0 then 7 else cvg - 1) ∧
    (s.mode.cvgDest = .clamp → blend = true → (f : Int) = min (cvg + memcvg) 7) ∧
    (s.mode.cvgDest = .wrap → (f : Int) = (cvg + memcvg) % 8) ∧
    (s.mode.cvgDest = .zap → f = 7) ∧
    (s.mode.cvgDest = .save → (f : Int) = memcvg)

/-- A colour written to the colour image is read back as its size keeps it (R562, R566): 16-bit RGBA drops the low three bits of
each channel, 32-bit keeps all, and both keep the coverage; 16-bit intensity keeps red; 8-bit keeps red and no coverage. -/
def Obligations.PixelReadBack : Prop :=
  ∀ (s : State) (ram : Ram) (p : Int) (r g b : Byte) (fc : BitVec 3), ramOk s.cfg ram = true → s.mode.imageReadEn = true →
    let c : Rgb Int := { r := (r.toNat : Int), g := (g.toNat : Int), b := (b.toNat : Int) }
    let q := fbRead s (fbWrite s ram p c fc) p
    (s.fbSize = 2 → s.fbFormat = 0 → fbHalf s p % 2 ^ 32 < ((memSize s.cfg / 2 : Nat) : Int) →
      q.color.r = ((r.toNat / 8 * 8 : Nat) : Int) ∧ q.color.g = ((g.toNat / 8 * 8 : Nat) : Int) ∧
        q.color.b = ((b.toNat / 8 * 8 : Nat) : Int) ∧ q.memcvg = (fc.toNat : Int) ∧ q.color.a = ((fc.toNat * 32 : Nat) : Int)) ∧
    (s.fbSize = 2 → s.fbFormat ≠ 0 → fbHalf s p % 2 ^ 32 < ((memSize s.cfg / 2 : Nat) : Int) →
      q.color.r = (r.toNat : Int) ∧ q.color.g = (r.toNat : Int) ∧ q.color.b = (r.toNat : Int)) ∧
    (s.fbSize = 3 → fbWord s p % 2 ^ 32 < ((memSize s.cfg / 4 : Nat) : Int) →
      q.color.r = (r.toNat : Int) ∧ q.color.g = (g.toNat : Int) ∧ q.color.b = (b.toNat : Int) ∧ q.memcvg = (fc.toNat : Int)) ∧
    (s.fbSize = 1 → fbByte s p % 2 ^ 32 < (memSize s.cfg : Int) →
      q.color.r = (r.toNat : Int) ∧ q.color.g = (r.toNat : Int) ∧ q.color.b = (r.toNat : Int) ∧ q.memcvg = 7)
end

