-- ==== Sys2Proof/Laws/Cells.lean ====
section
/-! SUPPORT. Sparse storage: read after write, and every write keeps the canonical form. -/

namespace Sys2Proof.Machine

theorem Cells.rising_mono {α : Type} {lo lo' : Nat} (h : lo' ≤ lo) (m : Cells α) (hm : Cells.rising lo m = true) :
    Cells.rising lo' m = true := by
  cases m with
  | nil => rfl
  | cons e rest =>
    obtain ⟨b, v⟩ := e
    simp only [Cells.rising, Bool.and_eq_true, decide_eq_true_eq] at hm ⊢
    exact ⟨by omega, hm.2⟩

theorem Cells.read_below {α : Type} (d : α) {lo : Nat} (m : Cells α) (hm : Cells.rising lo m = true) (a : Nat) (ha : a < lo) :
    Cells.read d m a = d := by
  induction m generalizing lo with
  | nil => rfl
  | cons e rest ih =>
    obtain ⟨b, v⟩ := e
    simp only [Cells.rising, Bool.and_eq_true, decide_eq_true_eq] at hm
    have hb : b ≠ a := by omega
    simp only [Cells.read, hb, if_false]
    exact ih hm.2 (by omega)

theorem Cells.read_insert {α : Type} (d : α) (m : Cells α) (a : Nat) (v : α) (c : Nat) :
    Cells.read d (Cells.insert m a v) c = if c = a then v else Cells.read d m c := by
  induction m with
  | nil =>
    by_cases h : c = a
    · simp [Cells.insert, Cells.read, h]
    · simp [Cells.insert, Cells.read, h, Ne.symm h]
  | cons e rest ih =>
    obtain ⟨b, w⟩ := e
    simp only [Cells.insert]
    split
    · by_cases h : c = a
      · simp [Cells.read, h]
      · simp [Cells.read, h, Ne.symm h]
    · split
      · rename_i h1 h2
        subst h2
        by_cases h : c = a
        · simp [Cells.read, h]
        · simp [Cells.read, h, Ne.symm h]
      · rename_i h1 h2
        by_cases hb : b = c
        · subst hb
          simp [Cells.read, Ne.symm h2]
        · simp [Cells.read, hb, ih]

theorem Cells.read_erase {α : Type} (d : α) {lo : Nat} (m : Cells α) (hm : Cells.rising lo m = true) (a c : Nat) :
    Cells.read d (Cells.erase m a) c = if c = a then d else Cells.read d m c := by
  induction m generalizing lo with
  | nil => simp [Cells.erase, Cells.read]
  | cons e rest ih =>
    obtain ⟨b, w⟩ := e
    simp only [Cells.rising, Bool.and_eq_true, decide_eq_true_eq] at hm
    simp only [Cells.erase]
    split
    · rename_i h
      subst h
      by_cases hc : c = b
      · subst hc
        simp only [if_true]
        exact Cells.read_below d rest hm.2 c (by omega)
      · simp [Cells.read, hc, Ne.symm hc]
    · by_cases hb : b = c
      · subst hb
        rename_i h
        simp [Cells.read, h]
      · simp [Cells.read, hb, ih hm.2]

/-- What a read finds after a write, in a canonical list. -/
theorem Cells.read_write {α : Type} [DecidableEq α] (d : α) {lo : Nat} (m : Cells α) (hm : Cells.rising lo m = true)
    (a : Nat) (v : α) (c : Nat) :
    Cells.read d (Cells.write d m a v) c = if c = a then v else Cells.read d m c := by
  unfold Cells.write
  split
  · rename_i h
    subst h
    exact Cells.read_erase v m hm a c
  · exact Cells.read_insert d m a v c

theorem Cells.rising_insert {α : Type} {lo : Nat} (m : Cells α) (hm : Cells.rising lo m = true) (a : Nat) (v : α)
    (ha : lo ≤ a) : Cells.rising lo (Cells.insert m a v) = true := by
  induction m generalizing lo with
  | nil => simp [Cells.insert, Cells.rising, ha]
  | cons e rest ih =>
    obtain ⟨b, w⟩ := e
    simp only [Cells.rising, Bool.and_eq_true, decide_eq_true_eq] at hm
    simp only [Cells.insert]
    split
    · simp only [Cells.rising, Bool.and_eq_true, decide_eq_true_eq]
      exact ⟨ha, by omega, hm.2⟩
    · split
      · rename_i h
        subst h
        simp only [Cells.rising, Bool.and_eq_true, decide_eq_true_eq]
        exact ⟨ha, hm.2⟩
      · simp only [Cells.rising, Bool.and_eq_true, decide_eq_true_eq]
        exact ⟨hm.1, ih hm.2 (by omega)⟩

theorem Cells.rising_erase {α : Type} {lo : Nat} (m : Cells α) (hm : Cells.rising lo m = true) (a : Nat) :
    Cells.rising lo (Cells.erase m a) = true := by
  induction m generalizing lo with
  | nil => rfl
  | cons e rest ih =>
    obtain ⟨b, w⟩ := e
    simp only [Cells.rising, Bool.and_eq_true, decide_eq_true_eq] at hm
    simp only [Cells.erase]
    split
    · exact Cells.rising_mono (by omega) rest hm.2
    · simp only [Cells.rising, Bool.and_eq_true, decide_eq_true_eq]
      exact ⟨hm.1, ih hm.2⟩

theorem Cells.all_insert {α : Type} (p : Nat × α → Bool) (m : Cells α) (hm : m.all p = true) (a : Nat) (v : α)
    (hp : p (a, v) = true) : (Cells.insert m a v).all p = true := by
  induction m with
  | nil => simp [Cells.insert, hp]
  | cons e rest ih =>
    obtain ⟨b, w⟩ := e
    simp only [List.all_cons, Bool.and_eq_true] at hm
    simp only [Cells.insert]
    split
    · simp [hp, hm.1, hm.2]
    · split
      · simp [hp, hm.2]
      · simp [hm.1, ih hm.2]

theorem Cells.all_erase {α : Type} (p : Nat × α → Bool) (m : Cells α) (hm : m.all p = true) (a : Nat) :
    (Cells.erase m a).all p = true := by
  induction m with
  | nil => rfl
  | cons e rest ih =>
    obtain ⟨b, w⟩ := e
    simp only [List.all_cons, Bool.and_eq_true] at hm
    simp only [Cells.erase]
    split
    · exact hm.2
    · simp [hm.1, ih hm.2]

theorem Cells.wf_rising {α : Type} [DecidableEq α] {d : α} {size : Nat} {m : Cells α} (h : Cells.wf d size m = true) :
    Cells.rising 0 m = true := by
  simp only [Cells.wf, Bool.and_eq_true] at h
  exact h.1

/-- A write below `size` keeps the canonical form. -/
theorem Cells.wf_write {α : Type} [DecidableEq α] {d : α} {size : Nat} {m : Cells α} (h : Cells.wf d size m = true)
    (a : Nat) (v : α) (ha : a < size) : Cells.wf d size (Cells.write d m a v) = true := by
  simp only [Cells.wf, Bool.and_eq_true] at h ⊢
  unfold Cells.write
  split
  · exact ⟨Cells.rising_erase m h.1 a, Cells.all_erase _ m h.2 a⟩
  · rename_i hv
    exact ⟨Cells.rising_insert m h.1 a v (by omega), Cells.all_insert _ m h.2 a v (by simp [ha, hv])⟩

/-- The empty list is canonical. -/
theorem Cells.wf_nil {α : Type} [DecidableEq α] (d : α) (size : Nat) : Cells.wf d size ([] : Cells α) = true := rfl

theorem Cells.read_ge {α : Type} [DecidableEq α] {d : α} {size : Nat} (m : Cells α) (h : Cells.wf d size m = true) (a : Nat)
    (ha : size ≤ a) : Cells.read d m a = d := by
  simp only [Cells.wf, Bool.and_eq_true] at h
  have h2 := h.2
  clear h
  induction m with
  | nil => rfl
  | cons e rest ih =>
    obtain ⟨b, v⟩ := e
    simp only [List.all_cons, Bool.and_eq_true, decide_eq_true_eq] at h2
    have hb : b ≠ a := by omega
    simp only [Cells.read, hb, if_false]
    exact ih h2.2

/-- Two canonical lists with the same contents are the same list. -/
theorem Cells.ext_read {α : Type} [DecidableEq α] (d : α) {lo size : Nat} (m n : Cells α)
    (hm : Cells.rising lo m = true) (hn : Cells.rising lo n = true)
    (hm' : (m.all fun e => decide (e.1 < size) && decide (e.2 ≠ d)) = true)
    (hn' : (n.all fun e => decide (e.1 < size) && decide (e.2 ≠ d)) = true)
    (h : ∀ a, Cells.read d m a = Cells.read d n a) : m = n := by
  induction m generalizing lo n with
  | nil =>
    cases n with
    | nil => rfl
    | cons e rest =>
      obtain ⟨b, v⟩ := e
      have := h b
      simp only [List.all_cons, Bool.and_eq_true, decide_eq_true_eq] at hn'
      simp only [Cells.read, if_true] at this
      exact absurd this.symm hn'.1.2
  | cons e rest ih =>
    obtain ⟨b, v⟩ := e
    simp only [List.all_cons, Bool.and_eq_true, decide_eq_true_eq] at hm'
    simp only [Cells.rising, Bool.and_eq_true, decide_eq_true_eq] at hm
    cases n with
    | nil =>
      have := h b
      simp only [Cells.read, if_true] at this
      exact absurd this hm'.1.2
    | cons e' rest' =>
      obtain ⟨c, w⟩ := e'
      simp only [List.all_cons, Bool.and_eq_true, decide_eq_true_eq] at hn'
      simp only [Cells.rising, Bool.and_eq_true, decide_eq_true_eq] at hn
      have hbc : b = c := by
        rcases Nat.lt_trichotomy b c with hlt | heq | hgt
        · have := h b
          simp only [Cells.read, if_true, Nat.ne_of_gt hlt, if_false] at this
          rw [Cells.read_below d rest' hn.2 b (by omega)] at this
          exact absurd this hm'.1.2
        · exact heq
        · have := h c
          simp only [Cells.read, if_true, Nat.ne_of_gt hgt, if_false] at this
          rw [Cells.read_below d rest hm.2 c (by omega)] at this
          exact absurd this.symm hn'.1.2
      subst hbc
      have hvw : v = w := by
        have := h b
        simpa only [Cells.read, if_true] using this
      subst hvw
      have : rest = rest' := by
        refine ih rest' hm.2 hn.2 hm'.2 hn'.2 ?_
        intro a
        by_cases hab : b = a
        · subst hab
          rw [Cells.read_below d rest hm.2 b (by omega), Cells.read_below d rest' hn.2 b (by omega)]
        · have := h a
          simpa only [Cells.read, hab, if_false] using this
      rw [this]

end Sys2Proof.Machine
end

