-- ==== Sys2Proof/Laws/Memory.lean ====
section
/-! SUPPORT. What each memory primitive does to every byte and every hidden entry, and that each keeps the canonical form
(20_memory.md R82 to R87). -/

namespace Sys2Proof.Machine

variable {cfg : Config} {ram : Ram}

theorem ramOk_mem (h : ramOk cfg ram = true) : Cells.wf (0 : Byte) (memSize cfg) ram.mem = true := by
  simp only [ramOk, Memory.wf, Bool.and_eq_true] at h
  exact h.1

theorem ramOk_hid (h : ramOk cfg ram = true) : Cells.wf cfg.hiddenInit (memSize cfg / 2) ram.hid = true := by
  simp only [ramOk, Memory.wf, Bool.and_eq_true] at h
  exact h.2

theorem ramOk_intro (h1 : Cells.wf (0 : Byte) (memSize cfg) ram.mem = true)
    (h2 : Cells.wf cfg.hiddenInit (memSize cfg / 2) ram.hid = true) : ramOk cfg ram = true := by
  simp only [ramOk, Memory.wf, Bool.and_eq_true]
  exact ⟨h1, h2⟩

theorem memByte_setMemByte (h : ramOk cfg ram = true) (u : Nat) (v : Byte) (a : Nat) :
    memByte (setMemByte ram u v) a = if a = u then v else memByte ram a :=
  Cells.read_write 0 ram.mem (Cells.wf_rising (ramOk_mem h)) u v a

@[simp] theorem memByte_setHid (u : Nat) (x : BitVec 2) (a : Nat) : memByte (setHid cfg ram u x) a = memByte ram a := rfl

@[simp] theorem hidEntry_setMemByte (u : Nat) (v : Byte) (a : Nat) :
    hidEntry cfg (setMemByte ram u v) a = hidEntry cfg ram a := rfl

theorem hidEntry_setHid (h : ramOk cfg ram = true) (u : Nat) (x : BitVec 2) (a : Nat) :
    hidEntry cfg (setHid cfg ram u x) a = if a = u then x else hidEntry cfg ram a :=
  Cells.read_write cfg.hiddenInit ram.hid (Cells.wf_rising (ramOk_hid h)) u x a

theorem ramOk_setMemByte (h : ramOk cfg ram = true) (u : Nat) (v : Byte) (hu : u < memSize cfg) :
    ramOk cfg (setMemByte ram u v) = true :=
  ramOk_intro (ram := setMemByte ram u v) (Cells.wf_write (ramOk_mem h) u v hu) (ramOk_hid (ram := ram) h)

theorem ramOk_setHid (h : ramOk cfg ram = true) (u : Nat) (x : BitVec 2) (hu : u < memSize cfg / 2) :
    ramOk cfg (setHid cfg ram u x) = true :=
  ramOk_intro (ram := setHid cfg ram u x) (ramOk_mem (ram := ram) h) (Cells.wf_write (ramOk_hid h) u x hu)

theorem ramOk_putHalf (h : ramOk cfg ram = true) (u : Nat) (v : Half) (hu : u < memSize cfg / 2) :
    ramOk cfg (putHalf ram u v) = true :=
  ramOk_setMemByte (ramOk_setMemByte h _ _ (by omega)) _ _ (by omega)

theorem ramOk_putWord (h : ramOk cfg ram = true) (u : Nat) (v : Word) (hu : u < memSize cfg / 4) :
    ramOk cfg (putWord ram u v) = true :=
  ramOk_setMemByte (ramOk_setMemByte (ramOk_setMemByte (ramOk_setMemByte h _ _ (by omega)) _ _ (by omega)) _ _ (by omega)) _ _
    (by omega)

theorem memByte_putHalf (h : ramOk cfg ram = true) (u : Nat) (v : Half) (hu : u < memSize cfg / 2) (a : Nat) :
    memByte (putHalf ram u v) a =
      if a = 2 * u + 1 then v.extractLsb' 0 8 else if a = 2 * u then v.extractLsb' 8 8 else memByte ram a := by
  unfold putHalf
  rw [memByte_setMemByte (ramOk_setMemByte h _ _ (by omega)), memByte_setMemByte h]

@[simp] theorem hidEntry_putHalf (u : Nat) (v : Half) (a : Nat) : hidEntry cfg (putHalf ram u v) a = hidEntry cfg ram a := rfl

theorem memByte_putWord (h : ramOk cfg ram = true) (u : Nat) (v : Word) (hu : u < memSize cfg / 4) (a : Nat) :
    memByte (putWord ram u v) a =
      if a = 4 * u + 3 then v.extractLsb' 0 8 else if a = 4 * u + 2 then v.extractLsb' 8 8
      else if a = 4 * u + 1 then v.extractLsb' 16 8 else if a = 4 * u then v.extractLsb' 24 8 else memByte ram a := by
  have h1 := ramOk_setMemByte h (4 * u) (v.extractLsb' 24 8) (by omega)
  have h2 := ramOk_setMemByte h1 (4 * u + 1) (v.extractLsb' 16 8) (by omega)
  have h3 := ramOk_setMemByte h2 (4 * u + 2) (v.extractLsb' 8 8) (by omega)
  unfold putWord
  rw [memByte_setMemByte h3, memByte_setMemByte h2, memByte_setMemByte h1, memByte_setMemByte h]

@[simp] theorem hidEntry_putWord (u : Nat) (v : Word) (a : Nat) : hidEntry cfg (putWord ram u v) a = hidEntry cfg ram a := rfl

/-! ## The primitives keep the canonical form -/

theorem ramOk_wr8 (h : ramOk cfg ram = true) (a : Int) (v : Byte) : ramOk cfg (wr8 cfg ram a v) = true := by
  unfold wr8
  dsimp only
  split
  · exact ramOk_setMemByte h _ _ ‹_›
  · exact h

theorem ramOk_wr16 (h : ramOk cfg ram = true) (i : Int) (v : Half) : ramOk cfg (wr16 cfg ram i v) = true := by
  unfold wr16
  dsimp only
  split
  · exact ramOk_putHalf h _ _ ‹_›
  · exact h

theorem ramOk_wr32 (h : ramOk cfg ram = true) (i : Int) (v : Word) : ramOk cfg (wr32 cfg ram i v) = true := by
  unfold wr32
  dsimp only
  split
  · exact ramOk_putWord h _ _ ‹_›
  · exact h

theorem ramOk_pairWr16 (h : ramOk cfg ram = true) (i : Int) (v : Half) (x : BitVec 2) :
    ramOk cfg (pairWr16 cfg ram i v x) = true := by
  unfold pairWr16
  dsimp only
  split
  · exact ramOk_setHid (ramOk_putHalf h _ _ ‹_›) _ _ ‹_›
  · exact h

theorem ramOk_pairWr32 (h : ramOk cfg ram = true) (i : Int) (v : Word) (x y : BitVec 2) :
    ramOk cfg (pairWr32 cfg ram i v x y) = true := by
  unfold pairWr32
  dsimp only
  split
  · exact ramOk_setHid (ramOk_setHid (ramOk_putWord h _ _ ‹_›) _ _ (by omega)) _ _ (by omega)
  · exact h

theorem memSize_odd {u : Nat} (h : u < memSize cfg) (ho : u % 2 = 1) : u / 2 < memSize cfg / 2 := by
  unfold memSize at *
  cases hb : cfg.memBits with
  | zero => rw [hb] at h; omega
  | succ b => rw [hb, Nat.pow_succ] at h; rw [Nat.pow_succ]; omega

theorem ramOk_pairWr8 (h : ramOk cfg ram = true) (a : Int) (v : Byte) (x : BitVec 2) :
    ramOk cfg (pairWr8 cfg ram a v x) = true := by
  unfold pairWr8
  dsimp only
  split
  · split
    · exact ramOk_setHid (ramOk_setMemByte h _ _ ‹_›) _ _ (memSize_odd ‹_› ‹_›)
    · exact ramOk_setMemByte h _ _ ‹_›
  · exact h

/-! ## What the primitives do to every byte -/

theorem memByte_wr8 (h : ramOk cfg ram = true) (i : Int) (v : Byte) (a : Nat) :
    memByte (wr8 cfg ram i v) a = if index32 i < memSize cfg ∧ a = index32 i then v else memByte ram a := by
  unfold wr8
  dsimp only
  split
  · rename_i hu
    rw [memByte_setMemByte h]
    simp only [hu, true_and]
  · rename_i hu
    simp only [hu, false_and, if_false]

theorem memByte_pairWr8 (h : ramOk cfg ram = true) (i : Int) (v : Byte) (x : BitVec 2) (a : Nat) :
    memByte (pairWr8 cfg ram i v x) a = if index32 i < memSize cfg ∧ a = index32 i then v else memByte ram a := by
  unfold pairWr8
  dsimp only
  split
  · rename_i hu
    have : memByte (setMemByte ram (index32 i) v) a = if a = index32 i then v else memByte ram a :=
      memByte_setMemByte h _ _ _
    split <;> simp only [memByte_setHid, this, hu, true_and]
  · rename_i hu
    simp only [hu, false_and, if_false]

theorem memByte_pairWr16_other (h : ramOk cfg ram = true) (i : Int) (v : Half) (x : BitVec 2) (a : Nat)
    (h0 : a ≠ 2 * index32 i) (h1 : a ≠ 2 * index32 i + 1) : memByte (pairWr16 cfg ram i v x) a = memByte ram a := by
  unfold pairWr16
  dsimp only
  split
  · rw [memByte_setHid, memByte_putHalf h _ _ ‹_›]
    simp only [h0, h1, if_false]
  · rfl

theorem memByte_pairWr32_other (h : ramOk cfg ram = true) (i : Int) (v : Word) (x y : BitVec 2) (a : Nat)
    (h0 : a ≠ 4 * index32 i) (h1 : a ≠ 4 * index32 i + 1) (h2 : a ≠ 4 * index32 i + 2) (h3 : a ≠ 4 * index32 i + 3) :
    memByte (pairWr32 cfg ram i v x y) a = memByte ram a := by
  unfold pairWr32
  dsimp only
  split
  · rw [memByte_setHid, memByte_setHid, memByte_putWord h _ _ ‹_›]
    simp only [h0, h1, h2, h3, if_false]
  · rfl

/-! ## Read after write -/

theorem half_join (v : Half) : v.extractLsb' 8 8 ++ v.extractLsb' 0 8 = v := by
  rw [BitVec.extractLsb'_append_extractLsb'_eq_extractLsb' (by omega)]
  simp

theorem pairRd16_pairWr16 (h : ramOk cfg ram = true) (i : Int) (v : Half) (x : BitVec 2)
    (hi : index32 i < memSize cfg / 2) : pairRd16 cfg (pairWr16 cfg ram i v x) i = (v, x) := by
  have hp := ramOk_putHalf h _ v hi
  unfold pairRd16 pairWr16
  dsimp only
  simp only [hi, if_true]
  rw [memByte_setHid, memByte_setHid, memByte_putHalf h _ _ hi, memByte_putHalf h _ _ hi, hidEntry_setHid hp]
  have : (2 * index32 i = 2 * index32 i + 1) = False := by simp
  simp only [this, if_true, if_false, half_join]

theorem rd16_wr16 (h : ramOk cfg ram = true) (i : Int) (v : Half) (hi : index32 i < memSize cfg / 2) :
    rd16 cfg (wr16 cfg ram i v) i = v := by
  unfold rd16 wr16
  dsimp only
  simp only [hi, if_true]
  rw [memByte_putHalf h _ _ hi, memByte_putHalf h _ _ hi]
  have : (2 * index32 i = 2 * index32 i + 1) = False := by simp
  simp only [this, if_true, if_false, half_join]

end Sys2Proof.Machine
end

