-- ==== Sys2Proof/Laws/Framebuffer.lean ====
section
/-! SUPPORT. The framebuffer and depth writes keep the canonical form and touch only the bytes of their pixel
(49_depth_coverage_framebuffer.md R548, R566, R580, R588). -/

namespace Sys2Proof.Machine

variable {s : State} {ram : Ram}

theorem ramOk_fbWrite (h : ramOk s.cfg ram = true) (p : Int) (c : Rgb Int) (fc : BitVec 3) :
    ramOk s.cfg (fbWrite s ram p c fc) = true := by
  unfold fbWrite
  dsimp only
  split
  · exact ramOk_wr8 h _ _
  · exact ramOk_pairWr8 h _ _ _
  · split <;> exact ramOk_pairWr16 h _ _ _
  · exact ramOk_pairWr32 h _ _ _ _

theorem ramOk_fbFill (h : ramOk s.cfg ram = true) (p : Int) : ramOk s.cfg (fbFill s ram p) = true := by
  unfold fbFill
  dsimp only
  split
  · exact h
  · exact ramOk_pairWr8 h _ _ _
  · exact ramOk_pairWr16 h _ _ _
  · exact ramOk_pairWr32 h _ _ _ _

theorem ramOk_copyWrite (h : ramOk s.cfg ram = true) (p : Int) (v : Half) : ramOk s.cfg (copyWrite s ram p v) = true := by
  unfold copyWrite
  dsimp only
  split
  · exact ramOk_pairWr8 h _ _ _
  · exact ramOk_pairWr8 (ramOk_pairWr8 h _ _ _) _ _ _

theorem ramOk_zStore (h : ramOk s.cfg ram = true) (zi sz : Int) (dz : Nat) : ramOk s.cfg (zStore s.cfg ram zi sz dz) = true :=
  ramOk_pairWr16 h _ _ _

theorem not_mem_unit2 {u a : Nat} (h : a ∉ unitAddresses 2 u) : a ≠ 2 * u ∧ a ≠ 2 * u + 1 := by
  constructor <;> intro e <;> apply h <;> subst e <;> simp [unitAddresses, List.range_succ]

theorem not_mem_unit4 {u a : Nat} (h : a ∉ unitAddresses 4 u) :
    a ≠ 4 * u ∧ a ≠ 4 * u + 1 ∧ a ≠ 4 * u + 2 ∧ a ≠ 4 * u + 3 := by
  refine ⟨?_, ?_, ?_, ?_⟩ <;> intro e <;> apply h <;> subst e <;> simp [unitAddresses, List.range_succ]

/-- A framebuffer write leaves every byte outside the pixel's colour bytes. -/
theorem memByte_fbWrite_other (h : ramOk s.cfg ram = true) (hc : s.mode.cycleType ≠ .copy) (p : Int) (c : Rgb Int)
    (fc : BitVec 3) (a : Nat) (ha : a ∉ colorBytes s p) : memByte (fbWrite s ram p c fc) a = memByte ram a := by
  unfold colorBytes at ha
  unfold fbWrite
  dsimp only
  split
  · rename_i hs
    simp only [hs, List.mem_singleton] at ha
    rw [memByte_wr8 h]
    simp only [ha, and_false, if_false]
  · rename_i hs
    simp only [hs, List.mem_singleton] at ha
    rw [memByte_pairWr8 h]
    simp only [ha, and_false, if_false]
  · rename_i hs
    simp only [hs, hc, if_false] at ha
    have := not_mem_unit2 ha
    split <;> exact memByte_pairWr16_other h _ _ _ _ this.1 this.2
  · rename_i h0 h1 h2
    split at ha
    · exact absurd ‹_› h0
    · exact absurd ‹_› h1
    · exact absurd ‹_› h2
    · have := not_mem_unit4 ha
      exact memByte_pairWr32_other h _ _ _ _ _ this.1 this.2.1 this.2.2.1 this.2.2.2

/-- A fill write leaves every byte outside the pixel's colour bytes. -/
theorem memByte_fbFill_other (h : ramOk s.cfg ram = true) (hc : s.mode.cycleType ≠ .copy) (p : Int) (a : Nat)
    (ha : a ∉ colorBytes s p) : memByte (fbFill s ram p) a = memByte ram a := by
  unfold colorBytes at ha
  unfold fbFill
  dsimp only
  split
  · rfl
  · rename_i hs
    simp only [hs, List.mem_singleton] at ha
    rw [memByte_pairWr8 h]
    simp only [ha, and_false, if_false]
  · rename_i hs
    simp only [hs, hc, if_false] at ha
    have := not_mem_unit2 ha
    exact memByte_pairWr16_other h _ _ _ _ this.1 this.2
  · rename_i h0 h1 h2
    split at ha
    · exact absurd ‹_› h0
    · exact absurd ‹_› h1
    · exact absurd ‹_› h2
    · have := not_mem_unit4 ha
      exact memByte_pairWr32_other h _ _ _ _ _ this.1 this.2.1 this.2.2.1 this.2.2.2

/-- A copy write leaves every byte outside the pixel's colour bytes. -/
theorem memByte_copyWrite_other (h : ramOk s.cfg ram = true) (hc : s.mode.cycleType = .copy)
    (hf : s.fbSize.toNat = 1 ∨ s.fbSize.toNat = 2) (p : Int) (v : Half) (a : Nat) (ha : a ∉ colorBytes s p) :
    memByte (copyWrite s ram p v) a = memByte ram a := by
  unfold colorBytes at ha
  unfold copyWrite
  dsimp only
  rcases hf with hf | hf
  · simp only [hf, List.mem_singleton] at ha
    simp only [hf, if_true]
    rw [memByte_pairWr8 h]
    simp only [ha, and_false, if_false]
  · simp only [hf, hc, if_true, List.mem_cons, List.not_mem_nil, or_false, not_or] at ha
    simp only [hf, show ¬ (2 = 1) by omega, if_false]
    rw [memByte_pairWr8 (ramOk_pairWr8 h _ _ _), memByte_pairWr8 h]
    simp only [ha.1, ha.2, and_false, if_false]

/-- A depth write leaves every byte outside the pixel's depth halfword. -/
theorem memByte_zStore_other (h : ramOk s.cfg ram = true) (zi sz : Int) (dz : Nat) (a : Nat)
    (ha : a ∉ unitAddresses 2 (index32 zi)) : memByte (zStore s.cfg ram zi sz dz) a = memByte ram a := by
  have := not_mem_unit2 ha
  exact memByte_pairWr16_other h _ _ _ _ this.1 this.2

end Sys2Proof.Machine
end

