-- ==== Sys2Proof/Laws/Render.lean ====
section
/-! SUPPORT. What the pixel pipelines can do to main memory: only the writes of the pixels they visit
(49_depth_coverage_framebuffer.md R580 to R594). -/

namespace Sys2Proof.Machine

/-- A property kept by every element of a list is kept by the fold. -/
theorem foldl_keeps {α β : Type} (P : β → Prop) (f : β → α → β) (l : List α) (b : β) (hb : P b)
    (h : ∀ b a, a ∈ l → P b → P (f b a)) : P (l.foldl f b) := by
  induction l generalizing b with
  | nil => exact hb
  | cons a l ih =>
    exact ih (f b a) (h b a (by simp) hb) (fun b c hc => h b c (by simp [hc]))

theorem mem_visited {flip : Bool} {spans : Cells Span} {ys ye i : Int} (hi : i ∈ rangeTo ys ye) {j : Nat}
    (hj : j < rowCount flip (spanRow spans i)) :
    (rowColumn flip (spanRow spans i) j, i) ∈ visited flip spans ys ye := by
  unfold visited rowColumns
  simp only [List.mem_flatMap, List.mem_map, List.mem_range]
  exact ⟨i, hi, _, ⟨j, hj, rfl⟩, rfl⟩

section

variable {s : State} {e : PrimEnv} {ys ye : Int} (P : Ram → Prop)

theorem renderRow_keeps (two : Bool)
    (hdraw : ∀ px w fb d ram, (px.x, px.y) ∈ visited e.flip e.spans ys ye → P ram → P (drawPixel s two e px w fb d ram))
    (pipe : Pipe) (i : Int) (hi : i ∈ rangeTo ys ye) (hp : P pipe.ram) : P (renderRow s two e pipe i).ram := by
  unfold renderRow
  dsimp only
  split
  · refine foldl_keeps (fun q : Pipe => P q.ram) _ _ _ hp ?_
    intro q px hpx hq
    obtain ⟨j, hj, rfl⟩ := List.mem_map.1 hpx
    unfold renderPixel
    dsimp only
    split
    · exact hdraw _ _ _ _ _ (mem_visited hi (List.mem_range.1 hj)) hq
    · exact hq
  · exact hp

theorem copyRow_keeps
    (hcopy : ∀ ram xy v, xy ∈ visited e.flip e.spans ys ye → P ram → P (copyWrite s ram (pixelIndex s xy.1 xy.2) v))
    (pipe : Pipe) (i : Int) (hi : i ∈ rangeTo ys ye) (hp : P pipe.ram) : P (copyRow s e pipe i).ram := by
  unfold copyRow
  dsimp only
  refine foldl_keeps (fun q : Pipe => P q.ram) _ _ _ hp ?_
  intro q g _ hq
  unfold copyStep
  dsimp only
  refine foldl_keeps P _ _ _ hq ?_
  intro ram k hk hram
  unfold copyPixel
  dsimp only
  split
  · refine hcopy ram (rowColumn e.flip (spanRow e.spans i) (g * copyGroup s + k), i) _ (mem_visited hi ?_) hram
    have := List.mem_range.1 hk
    omega
  · exact hram

theorem fillPixels_keeps (l : List (Int × Int)) (hfill : ∀ ram xy, xy ∈ l → P ram → P (fbFill s ram (pixelIndex s xy.1 xy.2)))
    (ram : Ram) (hp : P ram) : P (fillPixels s ram l) :=
  foldl_keeps P _ l ram hp hfill

theorem fbSize_cases {s : State} (h0 : s.fbSize.toNat ≠ 0) (h3 : s.fbSize.toNat ≠ 3) : s.fbSize.toNat = 1 ∨ s.fbSize.toNat = 2 := by
  have := s.fbSize.isLt
  omega

/-- What a pipeline does to main memory is a sequence of the writes of visited pixels, so what each of those keeps it keeps. -/
theorem renderSpans_keeps
    (hdraw : s.mode.cycleType ≠ .copy → ∀ two px w fb d ram, (px.x, px.y) ∈ visited e.flip e.spans ys ye → P ram →
      P (drawPixel s two e px w fb d ram))
    (hfill : s.mode.cycleType = .fill → ∀ ram xy, xy ∈ visited e.flip e.spans ys ye → P ram →
      P (fbFill s ram (pixelIndex s xy.1 xy.2)))
    (hcopy : s.mode.cycleType = .copy → s.fbSize.toNat = 1 ∨ s.fbSize.toNat = 2 →
      ∀ ram xy v, xy ∈ visited e.flip e.spans ys ye → P ram → P (copyWrite s ram (pixelIndex s xy.1 xy.2) v))
    {pipe pipe' : Pipe} (hp : P pipe.ram) (h : renderSpans s e ys ye pipe = some pipe') : P pipe'.ram := by
  unfold renderSpans at h
  split at h
  · rename_i hc
    cases h
    refine foldl_keeps (fun q : Pipe => P q.ram) _ _ _ hp ?_
    intro q i hi hq
    exact renderRow_keeps P false (hdraw (by simp [hc]) false) q i hi hq
  · rename_i hc
    cases h
    refine foldl_keeps (fun q : Pipe => P q.ram) _ _ _ hp ?_
    intro q i hi hq
    exact renderRow_keeps P true (hdraw (by simp [hc]) true) q i hi hq
  · rename_i hc
    unfold renderCopy at h
    split at h
    · cases h
    · rename_i h0
      split at h
      · split at h
        · cases h
        · cases h
          exact hp
      · rename_i h3
        cases h
        refine foldl_keeps (fun q : Pipe => P q.ram) _ _ _ hp ?_
        intro q i hi hq
        exact copyRow_keeps P (hcopy hc (fbSize_cases h0 h3)) q i hi hq
  · rename_i hc
    unfold renderFill at h
    split at h
    · cases h
    · cases h
      exact fillPixels_keeps P _ (hfill hc) pipe.ram hp

end

theorem ramOk_drawPixel {s : State} {ram : Ram} (h : ramOk s.cfg ram = true) (two : Bool) (e : PrimEnv) (px : PixelAt)
    (w : PixelWork) (fb : FbPixel) (d : DepthOut) : ramOk s.cfg (drawPixel s two e px w fb d ram) = true := by
  unfold drawPixel
  dsimp only
  split
  · exact ramOk_zStore (ramOk_fbWrite h _ _ _) _ _ _
  · exact ramOk_fbWrite h _ _ _

/-- Every pipeline keeps the canonical form of main memory. -/
theorem ramOk_renderSpans {s : State} {e : PrimEnv} {ys ye : Int} {pipe pipe' : Pipe} (hp : ramOk s.cfg pipe.ram = true)
    (h : renderSpans s e ys ye pipe = some pipe') : ramOk s.cfg pipe'.ram = true :=
  renderSpans_keeps (fun ram => ramOk s.cfg ram = true)
    (fun _ _ _ _ _ _ _ _ hr => ramOk_drawPixel hr _ _ _ _ _ _)
    (fun _ _ _ _ hr => ramOk_fbFill hr _) (fun _ _ _ _ _ _ hr => ramOk_copyWrite hr _ _) hp h

/-! ## The edge walk as a whole -/

/-- `renderSpans` stops exactly on the conditions of 60_exceptions.md R601. -/
theorem renderSpans_none (s : State) (e : PrimEnv) (ys ye : Int) (pipe : Pipe) :
    renderSpans s e ys ye pipe = none ↔
      (s.mode.cycleType = .fill ∧ s.fbSize.toNat = 0) ∨ (s.mode.cycleType = .copy ∧ s.fbSize.toNat = 0) ∨
        (s.mode.cycleType = .copy ∧ s.fbSize.toNat = 3 ∧ s.cfg.copy32Lockup = true) := by
  unfold renderSpans
  split
  · rename_i hc; simp [hc]
  · rename_i hc; simp [hc]
  · rename_i hc
    unfold renderCopy
    by_cases h0 : s.fbSize.toNat = 0
    · simp [hc, h0]
    · by_cases h3 : s.fbSize.toNat = 3
      · cases hl : s.cfg.copy32Lockup <;> simp [hc, h3]
      · simp [hc, h0, h3]
  · rename_i hc
    unfold renderFill
    by_cases h0 : s.fbSize.toNat = 0 <;> simp [hc, h0]

/-- What an edge walk can change: `max_level`, main memory with its hidden bits, `noise_seed`, the latch, the transient state. -/
theorem edgeWalk_frame (s : State) (ew : List Word) :
    edgeWalk s ew = { s with maxLevel := (decodeEw ew).level, ram := (edgeWalk s ew).ram, noiseSeed := (edgeWalk s ew).noiseSeed,
                             crashed := (edgeWalk s ew).crashed, scratch := (edgeWalk s ew).scratch } := by
  unfold edgeWalk afterWalk
  dsimp only
  split <;> rfl

/-- An edge walk that raises `Crashed` has written `max_level` and transient state only (R602). -/
theorem edgeWalk_none {s : State} {ew : List Word} (h : renderBlock s ew = none) :
    edgeWalk s ew = raiseCrashed (afterWalk s ew) := by
  unfold edgeWalk
  simp only [h]

/-- An edge walk that renders takes its memory and seed from the pipeline and leaves the latch. -/
theorem edgeWalk_some {s : State} {ew : List Word} {pipe : Pipe} (h : renderBlock s ew = some pipe) :
    edgeWalk s ew =
      { afterWalk s ew with ram := pipe.ram, noiseSeed := pipe.seed,
                            scratch := { (afterWalk s ew).scratch with cvgbuf := pipe.cvgbuf, pixel := pipe.pixel } } := by
  unfold edgeWalk
  simp only [h]

theorem ramOk_edgeWalk {s : State} (h : ramOk s.cfg s.ram = true) (ew : List Word) : ramOk s.cfg (edgeWalk s ew).ram = true := by
  cases hr : renderBlock s ew with
  | none => rw [edgeWalk_none hr]; exact h
  | some pipe =>
    rw [edgeWalk_some hr]
    unfold renderBlock at hr
    exact ramOk_renderSpans (s := afterWalk s ew) (pipe := pipeStart (afterWalk s ew)) h hr

end Sys2Proof.Machine
end

