-- ==== Sys2Proof/Laws/Load.lean ====
section
/-! SUPPORT. What a load command can do: the tile's extent, texture memory, the latch, the transient span buffer
(44_load_commands.md R290, R602), and that it keeps the canonical forms. -/

namespace Sys2Proof.Machine

theorem tmemWf_setTmem16 {tmem : Cells Byte} (h : Cells.wf (0 : Byte) 4096 tmem = true) (i : Int) (v : Half) :
    Cells.wf (0 : Byte) 4096 (setTmem16 tmem i v) = true := by
  unfold setTmem16
  dsimp only
  have hi : (zext 11 i).toNat < 2048 := by
    unfold zext
    omega
  exact Cells.wf_write (Cells.wf_write h _ _ (by omega)) _ _ (by omega)

theorem tmemWf_tmemStore {tmem : Cells Byte} (h : Cells.wf (0 : Byte) 4096 tmem = true) (t : Tile) (ls lt : Int)
    (q : BitVec 64) : Cells.wf (0 : Byte) 4096 (tmemStore tmem t ls lt q) = true := by
  unfold tmemStore
  dsimp only
  split <;> exact tmemWf_setTmem16 (tmemWf_setTmem16 (tmemWf_setTmem16 (tmemWf_setTmem16 h _ _) _ _) _ _) _ _

theorem tmemWf_loadUnits (s : State) (t : Tile) (k : LoadKind) (n : Nat) (r : LoadRegs)
    (h : Cells.wf (0 : Byte) 4096 r.tmem = true) : Cells.wf (0 : Byte) 4096 (loadUnits s t k n r).tmem = true := by
  induction n generalizing r with
  | zero => exact h
  | succ n ih => exact ih _ (tmemWf_tmemStore h _ _ _ _)

theorem spansWf_storeSpans {spans : Cells Span} (ps : List LoadSpan) (hr : ∀ p ∈ ps, p.row.toNat < 1024)
    (h : Cells.wf Span.zero 1024 spans = true) : Cells.wf Span.zero 1024 (storeSpans spans ps) = true := by
  unfold storeSpans
  exact foldl_keeps (fun m : Cells Span => Cells.wf Span.zero 1024 m = true) _ _ _ h
    (fun m p hp hm => Cells.wf_write hm _ _ (hr p hp))

theorem rectSpans_row (o : TileSizeOps) : ∀ p ∈ rectSpans o, p.row.toNat < 1024 := by
  intro p hp
  unfold rectSpans rangeTo at hp
  simp only [List.map_map, List.mem_map, List.mem_range, Function.comp] at hp
  obtain ⟨k, hk, rfl⟩ := hp
  simp only [asr, unsigned] at hk ⊢
  have := o.th.isLt
  have := o.tl.isLt
  omega

theorem blockSpans_row (o : TileSizeOps) : ∀ p ∈ blockSpans o, p.row.toNat < 1024 := by
  intro p hp
  simp only [blockSpans, List.mem_singleton] at hp
  subst hp
  simp only [zext]
  omega

/-- The load spans of a load, which decide what is copied. -/
theorem loadSpans_frame (s : State) (n : BitVec 3) (k : LoadKind) (ps : List LoadSpan) :
    loadSpans s n k ps = { s with tmem := (loadSpans s n k ps).tmem, crashed := (loadSpans s n k ps).crashed,
                                  scratch := (loadSpans s n k ps).scratch } := by
  unfold loadSpans raiseCrashed
  dsimp only
  split
  · split <;> rfl
  · rfl

theorem tmemWf_loadSpans {s : State} (h : tmemWf s = true) (n : BitVec 3) (k : LoadKind) (ps : List LoadSpan) :
    tmemWf (loadSpans s n k ps) = true := by
  unfold tmemWf at *
  unfold loadSpans raiseCrashed
  dsimp only
  split
  · split <;> exact h
  · exact foldl_keeps (fun m : Cells Byte => Cells.wf (0 : Byte) 4096 m = true) _ _ _ h
      (fun m p _ hm => tmemWf_loadUnits _ _ _ _ _ hm)

theorem scratchWf_loadSpans {s : State} (h : scratchWf s = true) (n : BitVec 3) (k : LoadKind) (ps : List LoadSpan)
    (hr : ∀ p ∈ ps, p.row.toNat < 1024) : scratchWf (loadSpans s n k ps) = true := by
  simp only [scratchWf, Bool.and_eq_true] at h ⊢
  have hs := spansWf_storeSpans ps hr h.1
  unfold loadSpans raiseCrashed
  dsimp only
  split
  · split <;> exact ⟨hs, h.2⟩
  · exact ⟨hs, h.2⟩

end Sys2Proof.Machine
end

