-- ==== Sys2Proof/Laws/State.lean ====
section
/-! SUPPORT. What each named update of the state does to each field, so that no proof unfolds a record update. -/

namespace Sys2Proof.Machine

variable (s : State)

/-! ## `raiseCrashed` -/

@[simp] theorem raiseCrashed_cfg : (raiseCrashed s).cfg = s.cfg := rfl
@[simp] theorem raiseCrashed_startc : (raiseCrashed s).startc = s.startc := rfl
@[simp] theorem raiseCrashed_endc : (raiseCrashed s).endc = s.endc := rfl
@[simp] theorem raiseCrashed_current : (raiseCrashed s).current = s.current := rfl
@[simp] theorem raiseCrashed_xbus : (raiseCrashed s).xbus = s.xbus := rfl
@[simp] theorem raiseCrashed_crashed : (raiseCrashed s).crashed = true := rfl
@[simp] theorem raiseCrashed_cmdq : (raiseCrashed s).cmdq = s.cmdq := rfl
@[simp] theorem raiseCrashed_qCur : (raiseCrashed s).qCur = s.qCur := rfl
@[simp] theorem raiseCrashed_call : (raiseCrashed s).call = s.call := rfl
@[simp] theorem raiseCrashed_syncEvents : (raiseCrashed s).syncEvents = s.syncEvents := rfl
@[simp] theorem raiseCrashed_ram : (raiseCrashed s).ram = s.ram := rfl
@[simp] theorem raiseCrashed_tmem : (raiseCrashed s).tmem = s.tmem := rfl
@[simp] theorem raiseCrashed_xmem : (raiseCrashed s).xmem = s.xmem := rfl
@[simp] theorem raiseCrashed_mode : (raiseCrashed s).mode = s.mode := rfl
@[simp] theorem raiseCrashed_combine : (raiseCrashed s).combine = s.combine := rfl
@[simp] theorem raiseCrashed_fogColor : (raiseCrashed s).fogColor = s.fogColor := rfl
@[simp] theorem raiseCrashed_blendColor : (raiseCrashed s).blendColor = s.blendColor := rfl
@[simp] theorem raiseCrashed_envColor : (raiseCrashed s).envColor = s.envColor := rfl
@[simp] theorem raiseCrashed_primColor : (raiseCrashed s).primColor = s.primColor := rfl
@[simp] theorem raiseCrashed_minLevel : (raiseCrashed s).minLevel = s.minLevel := rfl
@[simp] theorem raiseCrashed_primLodFrac : (raiseCrashed s).primLodFrac = s.primLodFrac := rfl
@[simp] theorem raiseCrashed_fillColor : (raiseCrashed s).fillColor = s.fillColor := rfl
@[simp] theorem raiseCrashed_keyCenter : (raiseCrashed s).keyCenter = s.keyCenter := rfl
@[simp] theorem raiseCrashed_keyScale : (raiseCrashed s).keyScale = s.keyScale := rfl
@[simp] theorem raiseCrashed_keyWidth : (raiseCrashed s).keyWidth = s.keyWidth := rfl
@[simp] theorem raiseCrashed_k0 : (raiseCrashed s).k0 = s.k0 := rfl
@[simp] theorem raiseCrashed_k1 : (raiseCrashed s).k1 = s.k1 := rfl
@[simp] theorem raiseCrashed_k2 : (raiseCrashed s).k2 = s.k2 := rfl
@[simp] theorem raiseCrashed_k3 : (raiseCrashed s).k3 = s.k3 := rfl
@[simp] theorem raiseCrashed_k4 : (raiseCrashed s).k4 = s.k4 := rfl
@[simp] theorem raiseCrashed_k5 : (raiseCrashed s).k5 = s.k5 := rfl
@[simp] theorem raiseCrashed_primZ : (raiseCrashed s).primZ = s.primZ := rfl
@[simp] theorem raiseCrashed_primDz : (raiseCrashed s).primDz = s.primDz := rfl
@[simp] theorem raiseCrashed_clipXh : (raiseCrashed s).clipXh = s.clipXh := rfl
@[simp] theorem raiseCrashed_clipYh : (raiseCrashed s).clipYh = s.clipYh := rfl
@[simp] theorem raiseCrashed_clipXl : (raiseCrashed s).clipXl = s.clipXl := rfl
@[simp] theorem raiseCrashed_clipYl : (raiseCrashed s).clipYl = s.clipYl := rfl
@[simp] theorem raiseCrashed_scfield : (raiseCrashed s).scfield = s.scfield := rfl
@[simp] theorem raiseCrashed_sckeepodd : (raiseCrashed s).sckeepodd = s.sckeepodd := rfl
@[simp] theorem raiseCrashed_fbFormat : (raiseCrashed s).fbFormat = s.fbFormat := rfl
@[simp] theorem raiseCrashed_fbSize : (raiseCrashed s).fbSize = s.fbSize := rfl
@[simp] theorem raiseCrashed_fbWidth : (raiseCrashed s).fbWidth = s.fbWidth := rfl
@[simp] theorem raiseCrashed_fbAddress : (raiseCrashed s).fbAddress = s.fbAddress := rfl
@[simp] theorem raiseCrashed_tiFormat : (raiseCrashed s).tiFormat = s.tiFormat := rfl
@[simp] theorem raiseCrashed_tiSize : (raiseCrashed s).tiSize = s.tiSize := rfl
@[simp] theorem raiseCrashed_tiWidth : (raiseCrashed s).tiWidth = s.tiWidth := rfl
@[simp] theorem raiseCrashed_tiAddress : (raiseCrashed s).tiAddress = s.tiAddress := rfl
@[simp] theorem raiseCrashed_zbAddress : (raiseCrashed s).zbAddress = s.zbAddress := rfl
@[simp] theorem raiseCrashed_maxLevel : (raiseCrashed s).maxLevel = s.maxLevel := rfl
@[simp] theorem raiseCrashed_noiseSeed : (raiseCrashed s).noiseSeed = s.noiseSeed := rfl
@[simp] theorem raiseCrashed_tiles : (raiseCrashed s).tiles = s.tiles := rfl
@[simp] theorem raiseCrashed_scratch : (raiseCrashed s).scratch = s.scratch := rfl

/-! ## `emitSync` -/

@[simp] theorem emitSync_cfg : (emitSync s).cfg = s.cfg := rfl
@[simp] theorem emitSync_startc : (emitSync s).startc = s.startc := rfl
@[simp] theorem emitSync_endc : (emitSync s).endc = s.endc := rfl
@[simp] theorem emitSync_current : (emitSync s).current = s.current := rfl
@[simp] theorem emitSync_xbus : (emitSync s).xbus = s.xbus := rfl
@[simp] theorem emitSync_crashed : (emitSync s).crashed = s.crashed := rfl
@[simp] theorem emitSync_cmdq : (emitSync s).cmdq = s.cmdq := rfl
@[simp] theorem emitSync_qCur : (emitSync s).qCur = s.qCur := rfl
@[simp] theorem emitSync_call : (emitSync s).call = s.call := rfl
@[simp] theorem emitSync_syncEvents : (emitSync s).syncEvents = s.syncEvents + 1 := rfl
@[simp] theorem emitSync_ram : (emitSync s).ram = s.ram := rfl
@[simp] theorem emitSync_tmem : (emitSync s).tmem = s.tmem := rfl
@[simp] theorem emitSync_xmem : (emitSync s).xmem = s.xmem := rfl
@[simp] theorem emitSync_mode : (emitSync s).mode = s.mode := rfl
@[simp] theorem emitSync_combine : (emitSync s).combine = s.combine := rfl
@[simp] theorem emitSync_fogColor : (emitSync s).fogColor = s.fogColor := rfl
@[simp] theorem emitSync_blendColor : (emitSync s).blendColor = s.blendColor := rfl
@[simp] theorem emitSync_envColor : (emitSync s).envColor = s.envColor := rfl
@[simp] theorem emitSync_primColor : (emitSync s).primColor = s.primColor := rfl
@[simp] theorem emitSync_minLevel : (emitSync s).minLevel = s.minLevel := rfl
@[simp] theorem emitSync_primLodFrac : (emitSync s).primLodFrac = s.primLodFrac := rfl
@[simp] theorem emitSync_fillColor : (emitSync s).fillColor = s.fillColor := rfl
@[simp] theorem emitSync_keyCenter : (emitSync s).keyCenter = s.keyCenter := rfl
@[simp] theorem emitSync_keyScale : (emitSync s).keyScale = s.keyScale := rfl
@[simp] theorem emitSync_keyWidth : (emitSync s).keyWidth = s.keyWidth := rfl
@[simp] theorem emitSync_k0 : (emitSync s).k0 = s.k0 := rfl
@[simp] theorem emitSync_k1 : (emitSync s).k1 = s.k1 := rfl
@[simp] theorem emitSync_k2 : (emitSync s).k2 = s.k2 := rfl
@[simp] theorem emitSync_k3 : (emitSync s).k3 = s.k3 := rfl
@[simp] theorem emitSync_k4 : (emitSync s).k4 = s.k4 := rfl
@[simp] theorem emitSync_k5 : (emitSync s).k5 = s.k5 := rfl
@[simp] theorem emitSync_primZ : (emitSync s).primZ = s.primZ := rfl
@[simp] theorem emitSync_primDz : (emitSync s).primDz = s.primDz := rfl
@[simp] theorem emitSync_clipXh : (emitSync s).clipXh = s.clipXh := rfl
@[simp] theorem emitSync_clipYh : (emitSync s).clipYh = s.clipYh := rfl
@[simp] theorem emitSync_clipXl : (emitSync s).clipXl = s.clipXl := rfl
@[simp] theorem emitSync_clipYl : (emitSync s).clipYl = s.clipYl := rfl
@[simp] theorem emitSync_scfield : (emitSync s).scfield = s.scfield := rfl
@[simp] theorem emitSync_sckeepodd : (emitSync s).sckeepodd = s.sckeepodd := rfl
@[simp] theorem emitSync_fbFormat : (emitSync s).fbFormat = s.fbFormat := rfl
@[simp] theorem emitSync_fbSize : (emitSync s).fbSize = s.fbSize := rfl
@[simp] theorem emitSync_fbWidth : (emitSync s).fbWidth = s.fbWidth := rfl
@[simp] theorem emitSync_fbAddress : (emitSync s).fbAddress = s.fbAddress := rfl
@[simp] theorem emitSync_tiFormat : (emitSync s).tiFormat = s.tiFormat := rfl
@[simp] theorem emitSync_tiSize : (emitSync s).tiSize = s.tiSize := rfl
@[simp] theorem emitSync_tiWidth : (emitSync s).tiWidth = s.tiWidth := rfl
@[simp] theorem emitSync_tiAddress : (emitSync s).tiAddress = s.tiAddress := rfl
@[simp] theorem emitSync_zbAddress : (emitSync s).zbAddress = s.zbAddress := rfl
@[simp] theorem emitSync_maxLevel : (emitSync s).maxLevel = s.maxLevel := rfl
@[simp] theorem emitSync_noiseSeed : (emitSync s).noiseSeed = s.noiseSeed := rfl
@[simp] theorem emitSync_tiles : (emitSync s).tiles = s.tiles := rfl
@[simp] theorem emitSync_scratch : (emitSync s).scratch = s.scratch := rfl

/-! ## `setTile` -/

@[simp] theorem setTile_cfg (n : BitVec 3) (t : Tile) : (setTile s n t).cfg = s.cfg := rfl
@[simp] theorem setTile_startc (n : BitVec 3) (t : Tile) : (setTile s n t).startc = s.startc := rfl
@[simp] theorem setTile_endc (n : BitVec 3) (t : Tile) : (setTile s n t).endc = s.endc := rfl
@[simp] theorem setTile_current (n : BitVec 3) (t : Tile) : (setTile s n t).current = s.current := rfl
@[simp] theorem setTile_xbus (n : BitVec 3) (t : Tile) : (setTile s n t).xbus = s.xbus := rfl
@[simp] theorem setTile_crashed (n : BitVec 3) (t : Tile) : (setTile s n t).crashed = s.crashed := rfl
@[simp] theorem setTile_cmdq (n : BitVec 3) (t : Tile) : (setTile s n t).cmdq = s.cmdq := rfl
@[simp] theorem setTile_qCur (n : BitVec 3) (t : Tile) : (setTile s n t).qCur = s.qCur := rfl
@[simp] theorem setTile_call (n : BitVec 3) (t : Tile) : (setTile s n t).call = s.call := rfl
@[simp] theorem setTile_syncEvents (n : BitVec 3) (t : Tile) : (setTile s n t).syncEvents = s.syncEvents := rfl
@[simp] theorem setTile_ram (n : BitVec 3) (t : Tile) : (setTile s n t).ram = s.ram := rfl
@[simp] theorem setTile_tmem (n : BitVec 3) (t : Tile) : (setTile s n t).tmem = s.tmem := rfl
@[simp] theorem setTile_xmem (n : BitVec 3) (t : Tile) : (setTile s n t).xmem = s.xmem := rfl
@[simp] theorem setTile_mode (n : BitVec 3) (t : Tile) : (setTile s n t).mode = s.mode := rfl
@[simp] theorem setTile_combine (n : BitVec 3) (t : Tile) : (setTile s n t).combine = s.combine := rfl
@[simp] theorem setTile_fogColor (n : BitVec 3) (t : Tile) : (setTile s n t).fogColor = s.fogColor := rfl
@[simp] theorem setTile_blendColor (n : BitVec 3) (t : Tile) : (setTile s n t).blendColor = s.blendColor := rfl
@[simp] theorem setTile_envColor (n : BitVec 3) (t : Tile) : (setTile s n t).envColor = s.envColor := rfl
@[simp] theorem setTile_primColor (n : BitVec 3) (t : Tile) : (setTile s n t).primColor = s.primColor := rfl
@[simp] theorem setTile_minLevel (n : BitVec 3) (t : Tile) : (setTile s n t).minLevel = s.minLevel := rfl
@[simp] theorem setTile_primLodFrac (n : BitVec 3) (t : Tile) : (setTile s n t).primLodFrac = s.primLodFrac := rfl
@[simp] theorem setTile_fillColor (n : BitVec 3) (t : Tile) : (setTile s n t).fillColor = s.fillColor := rfl
@[simp] theorem setTile_keyCenter (n : BitVec 3) (t : Tile) : (setTile s n t).keyCenter = s.keyCenter := rfl
@[simp] theorem setTile_keyScale (n : BitVec 3) (t : Tile) : (setTile s n t).keyScale = s.keyScale := rfl
@[simp] theorem setTile_keyWidth (n : BitVec 3) (t : Tile) : (setTile s n t).keyWidth = s.keyWidth := rfl
@[simp] theorem setTile_k0 (n : BitVec 3) (t : Tile) : (setTile s n t).k0 = s.k0 := rfl
@[simp] theorem setTile_k1 (n : BitVec 3) (t : Tile) : (setTile s n t).k1 = s.k1 := rfl
@[simp] theorem setTile_k2 (n : BitVec 3) (t : Tile) : (setTile s n t).k2 = s.k2 := rfl
@[simp] theorem setTile_k3 (n : BitVec 3) (t : Tile) : (setTile s n t).k3 = s.k3 := rfl
@[simp] theorem setTile_k4 (n : BitVec 3) (t : Tile) : (setTile s n t).k4 = s.k4 := rfl
@[simp] theorem setTile_k5 (n : BitVec 3) (t : Tile) : (setTile s n t).k5 = s.k5 := rfl
@[simp] theorem setTile_primZ (n : BitVec 3) (t : Tile) : (setTile s n t).primZ = s.primZ := rfl
@[simp] theorem setTile_primDz (n : BitVec 3) (t : Tile) : (setTile s n t).primDz = s.primDz := rfl
@[simp] theorem setTile_clipXh (n : BitVec 3) (t : Tile) : (setTile s n t).clipXh = s.clipXh := rfl
@[simp] theorem setTile_clipYh (n : BitVec 3) (t : Tile) : (setTile s n t).clipYh = s.clipYh := rfl
@[simp] theorem setTile_clipXl (n : BitVec 3) (t : Tile) : (setTile s n t).clipXl = s.clipXl := rfl
@[simp] theorem setTile_clipYl (n : BitVec 3) (t : Tile) : (setTile s n t).clipYl = s.clipYl := rfl
@[simp] theorem setTile_scfield (n : BitVec 3) (t : Tile) : (setTile s n t).scfield = s.scfield := rfl
@[simp] theorem setTile_sckeepodd (n : BitVec 3) (t : Tile) : (setTile s n t).sckeepodd = s.sckeepodd := rfl
@[simp] theorem setTile_fbFormat (n : BitVec 3) (t : Tile) : (setTile s n t).fbFormat = s.fbFormat := rfl
@[simp] theorem setTile_fbSize (n : BitVec 3) (t : Tile) : (setTile s n t).fbSize = s.fbSize := rfl
@[simp] theorem setTile_fbWidth (n : BitVec 3) (t : Tile) : (setTile s n t).fbWidth = s.fbWidth := rfl
@[simp] theorem setTile_fbAddress (n : BitVec 3) (t : Tile) : (setTile s n t).fbAddress = s.fbAddress := rfl
@[simp] theorem setTile_tiFormat (n : BitVec 3) (t : Tile) : (setTile s n t).tiFormat = s.tiFormat := rfl
@[simp] theorem setTile_tiSize (n : BitVec 3) (t : Tile) : (setTile s n t).tiSize = s.tiSize := rfl
@[simp] theorem setTile_tiWidth (n : BitVec 3) (t : Tile) : (setTile s n t).tiWidth = s.tiWidth := rfl
@[simp] theorem setTile_tiAddress (n : BitVec 3) (t : Tile) : (setTile s n t).tiAddress = s.tiAddress := rfl
@[simp] theorem setTile_zbAddress (n : BitVec 3) (t : Tile) : (setTile s n t).zbAddress = s.zbAddress := rfl
@[simp] theorem setTile_maxLevel (n : BitVec 3) (t : Tile) : (setTile s n t).maxLevel = s.maxLevel := rfl
@[simp] theorem setTile_noiseSeed (n : BitVec 3) (t : Tile) : (setTile s n t).noiseSeed = s.noiseSeed := rfl
@[simp] theorem setTile_tiles (n : BitVec 3) (t : Tile) : (setTile s n t).tiles = s.tiles.set n.toNat t := rfl
@[simp] theorem setTile_scratch (n : BitVec 3) (t : Tile) : (setTile s n t).scratch = s.scratch := rfl

/-! ## `setExtent` -/

@[simp] theorem setExtent_cfg (o : TileSizeOps) : (setExtent s o).cfg = s.cfg := rfl
@[simp] theorem setExtent_startc (o : TileSizeOps) : (setExtent s o).startc = s.startc := rfl
@[simp] theorem setExtent_endc (o : TileSizeOps) : (setExtent s o).endc = s.endc := rfl
@[simp] theorem setExtent_current (o : TileSizeOps) : (setExtent s o).current = s.current := rfl
@[simp] theorem setExtent_xbus (o : TileSizeOps) : (setExtent s o).xbus = s.xbus := rfl
@[simp] theorem setExtent_crashed (o : TileSizeOps) : (setExtent s o).crashed = s.crashed := rfl
@[simp] theorem setExtent_cmdq (o : TileSizeOps) : (setExtent s o).cmdq = s.cmdq := rfl
@[simp] theorem setExtent_qCur (o : TileSizeOps) : (setExtent s o).qCur = s.qCur := rfl
@[simp] theorem setExtent_call (o : TileSizeOps) : (setExtent s o).call = s.call := rfl
@[simp] theorem setExtent_syncEvents (o : TileSizeOps) : (setExtent s o).syncEvents = s.syncEvents := rfl
@[simp] theorem setExtent_ram (o : TileSizeOps) : (setExtent s o).ram = s.ram := rfl
@[simp] theorem setExtent_tmem (o : TileSizeOps) : (setExtent s o).tmem = s.tmem := rfl
@[simp] theorem setExtent_xmem (o : TileSizeOps) : (setExtent s o).xmem = s.xmem := rfl
@[simp] theorem setExtent_mode (o : TileSizeOps) : (setExtent s o).mode = s.mode := rfl
@[simp] theorem setExtent_combine (o : TileSizeOps) : (setExtent s o).combine = s.combine := rfl
@[simp] theorem setExtent_fogColor (o : TileSizeOps) : (setExtent s o).fogColor = s.fogColor := rfl
@[simp] theorem setExtent_blendColor (o : TileSizeOps) : (setExtent s o).blendColor = s.blendColor := rfl
@[simp] theorem setExtent_envColor (o : TileSizeOps) : (setExtent s o).envColor = s.envColor := rfl
@[simp] theorem setExtent_primColor (o : TileSizeOps) : (setExtent s o).primColor = s.primColor := rfl
@[simp] theorem setExtent_minLevel (o : TileSizeOps) : (setExtent s o).minLevel = s.minLevel := rfl
@[simp] theorem setExtent_primLodFrac (o : TileSizeOps) : (setExtent s o).primLodFrac = s.primLodFrac := rfl
@[simp] theorem setExtent_fillColor (o : TileSizeOps) : (setExtent s o).fillColor = s.fillColor := rfl
@[simp] theorem setExtent_keyCenter (o : TileSizeOps) : (setExtent s o).keyCenter = s.keyCenter := rfl
@[simp] theorem setExtent_keyScale (o : TileSizeOps) : (setExtent s o).keyScale = s.keyScale := rfl
@[simp] theorem setExtent_keyWidth (o : TileSizeOps) : (setExtent s o).keyWidth = s.keyWidth := rfl
@[simp] theorem setExtent_k0 (o : TileSizeOps) : (setExtent s o).k0 = s.k0 := rfl
@[simp] theorem setExtent_k1 (o : TileSizeOps) : (setExtent s o).k1 = s.k1 := rfl
@[simp] theorem setExtent_k2 (o : TileSizeOps) : (setExtent s o).k2 = s.k2 := rfl
@[simp] theorem setExtent_k3 (o : TileSizeOps) : (setExtent s o).k3 = s.k3 := rfl
@[simp] theorem setExtent_k4 (o : TileSizeOps) : (setExtent s o).k4 = s.k4 := rfl
@[simp] theorem setExtent_k5 (o : TileSizeOps) : (setExtent s o).k5 = s.k5 := rfl
@[simp] theorem setExtent_primZ (o : TileSizeOps) : (setExtent s o).primZ = s.primZ := rfl
@[simp] theorem setExtent_primDz (o : TileSizeOps) : (setExtent s o).primDz = s.primDz := rfl
@[simp] theorem setExtent_clipXh (o : TileSizeOps) : (setExtent s o).clipXh = s.clipXh := rfl
@[simp] theorem setExtent_clipYh (o : TileSizeOps) : (setExtent s o).clipYh = s.clipYh := rfl
@[simp] theorem setExtent_clipXl (o : TileSizeOps) : (setExtent s o).clipXl = s.clipXl := rfl
@[simp] theorem setExtent_clipYl (o : TileSizeOps) : (setExtent s o).clipYl = s.clipYl := rfl
@[simp] theorem setExtent_scfield (o : TileSizeOps) : (setExtent s o).scfield = s.scfield := rfl
@[simp] theorem setExtent_sckeepodd (o : TileSizeOps) : (setExtent s o).sckeepodd = s.sckeepodd := rfl
@[simp] theorem setExtent_fbFormat (o : TileSizeOps) : (setExtent s o).fbFormat = s.fbFormat := rfl
@[simp] theorem setExtent_fbSize (o : TileSizeOps) : (setExtent s o).fbSize = s.fbSize := rfl
@[simp] theorem setExtent_fbWidth (o : TileSizeOps) : (setExtent s o).fbWidth = s.fbWidth := rfl
@[simp] theorem setExtent_fbAddress (o : TileSizeOps) : (setExtent s o).fbAddress = s.fbAddress := rfl
@[simp] theorem setExtent_tiFormat (o : TileSizeOps) : (setExtent s o).tiFormat = s.tiFormat := rfl
@[simp] theorem setExtent_tiSize (o : TileSizeOps) : (setExtent s o).tiSize = s.tiSize := rfl
@[simp] theorem setExtent_tiWidth (o : TileSizeOps) : (setExtent s o).tiWidth = s.tiWidth := rfl
@[simp] theorem setExtent_tiAddress (o : TileSizeOps) : (setExtent s o).tiAddress = s.tiAddress := rfl
@[simp] theorem setExtent_zbAddress (o : TileSizeOps) : (setExtent s o).zbAddress = s.zbAddress := rfl
@[simp] theorem setExtent_maxLevel (o : TileSizeOps) : (setExtent s o).maxLevel = s.maxLevel := rfl
@[simp] theorem setExtent_noiseSeed (o : TileSizeOps) : (setExtent s o).noiseSeed = s.noiseSeed := rfl
@[simp] theorem setExtent_tiles (o : TileSizeOps) : (setExtent s o).tiles = s.tiles.set o.tile.toNat { getTile s o.tile with sl := o.sl, tl := o.tl, sh := o.sh, th := o.th } := rfl
@[simp] theorem setExtent_scratch (o : TileSizeOps) : (setExtent s o).scratch = s.scratch := rfl

/-! ## `afterWalk` -/

@[simp] theorem afterWalk_cfg (ew : List Word) : (afterWalk s ew).cfg = s.cfg := rfl
@[simp] theorem afterWalk_startc (ew : List Word) : (afterWalk s ew).startc = s.startc := rfl
@[simp] theorem afterWalk_endc (ew : List Word) : (afterWalk s ew).endc = s.endc := rfl
@[simp] theorem afterWalk_current (ew : List Word) : (afterWalk s ew).current = s.current := rfl
@[simp] theorem afterWalk_xbus (ew : List Word) : (afterWalk s ew).xbus = s.xbus := rfl
@[simp] theorem afterWalk_crashed (ew : List Word) : (afterWalk s ew).crashed = s.crashed := rfl
@[simp] theorem afterWalk_cmdq (ew : List Word) : (afterWalk s ew).cmdq = s.cmdq := rfl
@[simp] theorem afterWalk_qCur (ew : List Word) : (afterWalk s ew).qCur = s.qCur := rfl
@[simp] theorem afterWalk_call (ew : List Word) : (afterWalk s ew).call = s.call := rfl
@[simp] theorem afterWalk_syncEvents (ew : List Word) : (afterWalk s ew).syncEvents = s.syncEvents := rfl
@[simp] theorem afterWalk_ram (ew : List Word) : (afterWalk s ew).ram = s.ram := rfl
@[simp] theorem afterWalk_tmem (ew : List Word) : (afterWalk s ew).tmem = s.tmem := rfl
@[simp] theorem afterWalk_xmem (ew : List Word) : (afterWalk s ew).xmem = s.xmem := rfl
@[simp] theorem afterWalk_mode (ew : List Word) : (afterWalk s ew).mode = s.mode := rfl
@[simp] theorem afterWalk_combine (ew : List Word) : (afterWalk s ew).combine = s.combine := rfl
@[simp] theorem afterWalk_fogColor (ew : List Word) : (afterWalk s ew).fogColor = s.fogColor := rfl
@[simp] theorem afterWalk_blendColor (ew : List Word) : (afterWalk s ew).blendColor = s.blendColor := rfl
@[simp] theorem afterWalk_envColor (ew : List Word) : (afterWalk s ew).envColor = s.envColor := rfl
@[simp] theorem afterWalk_primColor (ew : List Word) : (afterWalk s ew).primColor = s.primColor := rfl
@[simp] theorem afterWalk_minLevel (ew : List Word) : (afterWalk s ew).minLevel = s.minLevel := rfl
@[simp] theorem afterWalk_primLodFrac (ew : List Word) : (afterWalk s ew).primLodFrac = s.primLodFrac := rfl
@[simp] theorem afterWalk_fillColor (ew : List Word) : (afterWalk s ew).fillColor = s.fillColor := rfl
@[simp] theorem afterWalk_keyCenter (ew : List Word) : (afterWalk s ew).keyCenter = s.keyCenter := rfl
@[simp] theorem afterWalk_keyScale (ew : List Word) : (afterWalk s ew).keyScale = s.keyScale := rfl
@[simp] theorem afterWalk_keyWidth (ew : List Word) : (afterWalk s ew).keyWidth = s.keyWidth := rfl
@[simp] theorem afterWalk_k0 (ew : List Word) : (afterWalk s ew).k0 = s.k0 := rfl
@[simp] theorem afterWalk_k1 (ew : List Word) : (afterWalk s ew).k1 = s.k1 := rfl
@[simp] theorem afterWalk_k2 (ew : List Word) : (afterWalk s ew).k2 = s.k2 := rfl
@[simp] theorem afterWalk_k3 (ew : List Word) : (afterWalk s ew).k3 = s.k3 := rfl
@[simp] theorem afterWalk_k4 (ew : List Word) : (afterWalk s ew).k4 = s.k4 := rfl
@[simp] theorem afterWalk_k5 (ew : List Word) : (afterWalk s ew).k5 = s.k5 := rfl
@[simp] theorem afterWalk_primZ (ew : List Word) : (afterWalk s ew).primZ = s.primZ := rfl
@[simp] theorem afterWalk_primDz (ew : List Word) : (afterWalk s ew).primDz = s.primDz := rfl
@[simp] theorem afterWalk_clipXh (ew : List Word) : (afterWalk s ew).clipXh = s.clipXh := rfl
@[simp] theorem afterWalk_clipYh (ew : List Word) : (afterWalk s ew).clipYh = s.clipYh := rfl
@[simp] theorem afterWalk_clipXl (ew : List Word) : (afterWalk s ew).clipXl = s.clipXl := rfl
@[simp] theorem afterWalk_clipYl (ew : List Word) : (afterWalk s ew).clipYl = s.clipYl := rfl
@[simp] theorem afterWalk_scfield (ew : List Word) : (afterWalk s ew).scfield = s.scfield := rfl
@[simp] theorem afterWalk_sckeepodd (ew : List Word) : (afterWalk s ew).sckeepodd = s.sckeepodd := rfl
@[simp] theorem afterWalk_fbFormat (ew : List Word) : (afterWalk s ew).fbFormat = s.fbFormat := rfl
@[simp] theorem afterWalk_fbSize (ew : List Word) : (afterWalk s ew).fbSize = s.fbSize := rfl
@[simp] theorem afterWalk_fbWidth (ew : List Word) : (afterWalk s ew).fbWidth = s.fbWidth := rfl
@[simp] theorem afterWalk_fbAddress (ew : List Word) : (afterWalk s ew).fbAddress = s.fbAddress := rfl
@[simp] theorem afterWalk_tiFormat (ew : List Word) : (afterWalk s ew).tiFormat = s.tiFormat := rfl
@[simp] theorem afterWalk_tiSize (ew : List Word) : (afterWalk s ew).tiSize = s.tiSize := rfl
@[simp] theorem afterWalk_tiWidth (ew : List Word) : (afterWalk s ew).tiWidth = s.tiWidth := rfl
@[simp] theorem afterWalk_tiAddress (ew : List Word) : (afterWalk s ew).tiAddress = s.tiAddress := rfl
@[simp] theorem afterWalk_zbAddress (ew : List Word) : (afterWalk s ew).zbAddress = s.zbAddress := rfl
@[simp] theorem afterWalk_maxLevel (ew : List Word) : (afterWalk s ew).maxLevel = (decodeEw ew).level := rfl
@[simp] theorem afterWalk_noiseSeed (ew : List Word) : (afterWalk s ew).noiseSeed = s.noiseSeed := rfl
@[simp] theorem afterWalk_tiles (ew : List Word) : (afterWalk s ew).tiles = s.tiles := rfl
@[simp] theorem afterWalk_scratch (ew : List Word) : (afterWalk s ew).scratch = { s.scratch with ew := ew, consts := spanConsts (decodeEw ew), spans := walkSpans s (decodeEw ew) } := rfl

/-! ## `advance` -/

@[simp] theorem advance_cfg (n : Nat) : (advance s n).cfg = s.cfg := rfl
@[simp] theorem advance_startc (n : Nat) : (advance s n).startc = s.startc := rfl
@[simp] theorem advance_endc (n : Nat) : (advance s n).endc = s.endc := rfl
@[simp] theorem advance_current (n : Nat) : (advance s n).current = s.current := rfl
@[simp] theorem advance_xbus (n : Nat) : (advance s n).xbus = s.xbus := rfl
@[simp] theorem advance_crashed (n : Nat) : (advance s n).crashed = s.crashed := rfl
@[simp] theorem advance_cmdq (n : Nat) : (advance s n).cmdq = s.cmdq := rfl
@[simp] theorem advance_qCur (n : Nat) : (advance s n).qCur = s.qCur + n := rfl
@[simp] theorem advance_call (n : Nat) : (advance s n).call = s.call := rfl
@[simp] theorem advance_syncEvents (n : Nat) : (advance s n).syncEvents = s.syncEvents := rfl
@[simp] theorem advance_ram (n : Nat) : (advance s n).ram = s.ram := rfl
@[simp] theorem advance_tmem (n : Nat) : (advance s n).tmem = s.tmem := rfl
@[simp] theorem advance_xmem (n : Nat) : (advance s n).xmem = s.xmem := rfl
@[simp] theorem advance_mode (n : Nat) : (advance s n).mode = s.mode := rfl
@[simp] theorem advance_combine (n : Nat) : (advance s n).combine = s.combine := rfl
@[simp] theorem advance_fogColor (n : Nat) : (advance s n).fogColor = s.fogColor := rfl
@[simp] theorem advance_blendColor (n : Nat) : (advance s n).blendColor = s.blendColor := rfl
@[simp] theorem advance_envColor (n : Nat) : (advance s n).envColor = s.envColor := rfl
@[simp] theorem advance_primColor (n : Nat) : (advance s n).primColor = s.primColor := rfl
@[simp] theorem advance_minLevel (n : Nat) : (advance s n).minLevel = s.minLevel := rfl
@[simp] theorem advance_primLodFrac (n : Nat) : (advance s n).primLodFrac = s.primLodFrac := rfl
@[simp] theorem advance_fillColor (n : Nat) : (advance s n).fillColor = s.fillColor := rfl
@[simp] theorem advance_keyCenter (n : Nat) : (advance s n).keyCenter = s.keyCenter := rfl
@[simp] theorem advance_keyScale (n : Nat) : (advance s n).keyScale = s.keyScale := rfl
@[simp] theorem advance_keyWidth (n : Nat) : (advance s n).keyWidth = s.keyWidth := rfl
@[simp] theorem advance_k0 (n : Nat) : (advance s n).k0 = s.k0 := rfl
@[simp] theorem advance_k1 (n : Nat) : (advance s n).k1 = s.k1 := rfl
@[simp] theorem advance_k2 (n : Nat) : (advance s n).k2 = s.k2 := rfl
@[simp] theorem advance_k3 (n : Nat) : (advance s n).k3 = s.k3 := rfl
@[simp] theorem advance_k4 (n : Nat) : (advance s n).k4 = s.k4 := rfl
@[simp] theorem advance_k5 (n : Nat) : (advance s n).k5 = s.k5 := rfl
@[simp] theorem advance_primZ (n : Nat) : (advance s n).primZ = s.primZ := rfl
@[simp] theorem advance_primDz (n : Nat) : (advance s n).primDz = s.primDz := rfl
@[simp] theorem advance_clipXh (n : Nat) : (advance s n).clipXh = s.clipXh := rfl
@[simp] theorem advance_clipYh (n : Nat) : (advance s n).clipYh = s.clipYh := rfl
@[simp] theorem advance_clipXl (n : Nat) : (advance s n).clipXl = s.clipXl := rfl
@[simp] theorem advance_clipYl (n : Nat) : (advance s n).clipYl = s.clipYl := rfl
@[simp] theorem advance_scfield (n : Nat) : (advance s n).scfield = s.scfield := rfl
@[simp] theorem advance_sckeepodd (n : Nat) : (advance s n).sckeepodd = s.sckeepodd := rfl
@[simp] theorem advance_fbFormat (n : Nat) : (advance s n).fbFormat = s.fbFormat := rfl
@[simp] theorem advance_fbSize (n : Nat) : (advance s n).fbSize = s.fbSize := rfl
@[simp] theorem advance_fbWidth (n : Nat) : (advance s n).fbWidth = s.fbWidth := rfl
@[simp] theorem advance_fbAddress (n : Nat) : (advance s n).fbAddress = s.fbAddress := rfl
@[simp] theorem advance_tiFormat (n : Nat) : (advance s n).tiFormat = s.tiFormat := rfl
@[simp] theorem advance_tiSize (n : Nat) : (advance s n).tiSize = s.tiSize := rfl
@[simp] theorem advance_tiWidth (n : Nat) : (advance s n).tiWidth = s.tiWidth := rfl
@[simp] theorem advance_tiAddress (n : Nat) : (advance s n).tiAddress = s.tiAddress := rfl
@[simp] theorem advance_zbAddress (n : Nat) : (advance s n).zbAddress = s.zbAddress := rfl
@[simp] theorem advance_maxLevel (n : Nat) : (advance s n).maxLevel = s.maxLevel := rfl
@[simp] theorem advance_noiseSeed (n : Nat) : (advance s n).noiseSeed = s.noiseSeed := rfl
@[simp] theorem advance_tiles (n : Nat) : (advance s n).tiles = s.tiles := rfl
@[simp] theorem advance_scratch (n : Nat) : (advance s n).scratch = s.scratch := rfl

/-! ## `fetchBatch` -/

@[simp] theorem fetchBatch_cfg (c : Call) (q : List Word) : (fetchBatch s c q).cfg = s.cfg := rfl
@[simp] theorem fetchBatch_startc (c : Call) (q : List Word) : (fetchBatch s c q).startc = s.startc := rfl
@[simp] theorem fetchBatch_endc (c : Call) (q : List Word) : (fetchBatch s c q).endc = s.endc := rfl
@[simp] theorem fetchBatch_current (c : Call) (q : List Word) : (fetchBatch s c q).current = s.current := rfl
@[simp] theorem fetchBatch_xbus (c : Call) (q : List Word) : (fetchBatch s c q).xbus = s.xbus := rfl
@[simp] theorem fetchBatch_crashed (c : Call) (q : List Word) : (fetchBatch s c q).crashed = s.crashed := rfl
@[simp] theorem fetchBatch_cmdq (c : Call) (q : List Word) :
    (fetchBatch s c q).cmdq = q ++ fetchWords s c.widx (min c.remaining (cmdBatch s.cfg)) := rfl
@[simp] theorem fetchBatch_qCur (c : Call) (q : List Word) : (fetchBatch s c q).qCur = s.qCur := rfl
@[simp] theorem fetchBatch_call (c : Call) (q : List Word) :
    (fetchBatch s c q).call = some { widx := c.widx + min c.remaining (cmdBatch s.cfg), remaining := c.remaining - min c.remaining (cmdBatch s.cfg), fresh := false } := rfl
@[simp] theorem fetchBatch_syncEvents (c : Call) (q : List Word) : (fetchBatch s c q).syncEvents = s.syncEvents := rfl
@[simp] theorem fetchBatch_ram (c : Call) (q : List Word) : (fetchBatch s c q).ram = s.ram := rfl
@[simp] theorem fetchBatch_tmem (c : Call) (q : List Word) : (fetchBatch s c q).tmem = s.tmem := rfl
@[simp] theorem fetchBatch_xmem (c : Call) (q : List Word) : (fetchBatch s c q).xmem = s.xmem := rfl
@[simp] theorem fetchBatch_mode (c : Call) (q : List Word) : (fetchBatch s c q).mode = s.mode := rfl
@[simp] theorem fetchBatch_combine (c : Call) (q : List Word) : (fetchBatch s c q).combine = s.combine := rfl
@[simp] theorem fetchBatch_fogColor (c : Call) (q : List Word) : (fetchBatch s c q).fogColor = s.fogColor := rfl
@[simp] theorem fetchBatch_blendColor (c : Call) (q : List Word) : (fetchBatch s c q).blendColor = s.blendColor := rfl
@[simp] theorem fetchBatch_envColor (c : Call) (q : List Word) : (fetchBatch s c q).envColor = s.envColor := rfl
@[simp] theorem fetchBatch_primColor (c : Call) (q : List Word) : (fetchBatch s c q).primColor = s.primColor := rfl
@[simp] theorem fetchBatch_minLevel (c : Call) (q : List Word) : (fetchBatch s c q).minLevel = s.minLevel := rfl
@[simp] theorem fetchBatch_primLodFrac (c : Call) (q : List Word) : (fetchBatch s c q).primLodFrac = s.primLodFrac := rfl
@[simp] theorem fetchBatch_fillColor (c : Call) (q : List Word) : (fetchBatch s c q).fillColor = s.fillColor := rfl
@[simp] theorem fetchBatch_keyCenter (c : Call) (q : List Word) : (fetchBatch s c q).keyCenter = s.keyCenter := rfl
@[simp] theorem fetchBatch_keyScale (c : Call) (q : List Word) : (fetchBatch s c q).keyScale = s.keyScale := rfl
@[simp] theorem fetchBatch_keyWidth (c : Call) (q : List Word) : (fetchBatch s c q).keyWidth = s.keyWidth := rfl
@[simp] theorem fetchBatch_k0 (c : Call) (q : List Word) : (fetchBatch s c q).k0 = s.k0 := rfl
@[simp] theorem fetchBatch_k1 (c : Call) (q : List Word) : (fetchBatch s c q).k1 = s.k1 := rfl
@[simp] theorem fetchBatch_k2 (c : Call) (q : List Word) : (fetchBatch s c q).k2 = s.k2 := rfl
@[simp] theorem fetchBatch_k3 (c : Call) (q : List Word) : (fetchBatch s c q).k3 = s.k3 := rfl
@[simp] theorem fetchBatch_k4 (c : Call) (q : List Word) : (fetchBatch s c q).k4 = s.k4 := rfl
@[simp] theorem fetchBatch_k5 (c : Call) (q : List Word) : (fetchBatch s c q).k5 = s.k5 := rfl
@[simp] theorem fetchBatch_primZ (c : Call) (q : List Word) : (fetchBatch s c q).primZ = s.primZ := rfl
@[simp] theorem fetchBatch_primDz (c : Call) (q : List Word) : (fetchBatch s c q).primDz = s.primDz := rfl
@[simp] theorem fetchBatch_clipXh (c : Call) (q : List Word) : (fetchBatch s c q).clipXh = s.clipXh := rfl
@[simp] theorem fetchBatch_clipYh (c : Call) (q : List Word) : (fetchBatch s c q).clipYh = s.clipYh := rfl
@[simp] theorem fetchBatch_clipXl (c : Call) (q : List Word) : (fetchBatch s c q).clipXl = s.clipXl := rfl
@[simp] theorem fetchBatch_clipYl (c : Call) (q : List Word) : (fetchBatch s c q).clipYl = s.clipYl := rfl
@[simp] theorem fetchBatch_scfield (c : Call) (q : List Word) : (fetchBatch s c q).scfield = s.scfield := rfl
@[simp] theorem fetchBatch_sckeepodd (c : Call) (q : List Word) : (fetchBatch s c q).sckeepodd = s.sckeepodd := rfl
@[simp] theorem fetchBatch_fbFormat (c : Call) (q : List Word) : (fetchBatch s c q).fbFormat = s.fbFormat := rfl
@[simp] theorem fetchBatch_fbSize (c : Call) (q : List Word) : (fetchBatch s c q).fbSize = s.fbSize := rfl
@[simp] theorem fetchBatch_fbWidth (c : Call) (q : List Word) : (fetchBatch s c q).fbWidth = s.fbWidth := rfl
@[simp] theorem fetchBatch_fbAddress (c : Call) (q : List Word) : (fetchBatch s c q).fbAddress = s.fbAddress := rfl
@[simp] theorem fetchBatch_tiFormat (c : Call) (q : List Word) : (fetchBatch s c q).tiFormat = s.tiFormat := rfl
@[simp] theorem fetchBatch_tiSize (c : Call) (q : List Word) : (fetchBatch s c q).tiSize = s.tiSize := rfl
@[simp] theorem fetchBatch_tiWidth (c : Call) (q : List Word) : (fetchBatch s c q).tiWidth = s.tiWidth := rfl
@[simp] theorem fetchBatch_tiAddress (c : Call) (q : List Word) : (fetchBatch s c q).tiAddress = s.tiAddress := rfl
@[simp] theorem fetchBatch_zbAddress (c : Call) (q : List Word) : (fetchBatch s c q).zbAddress = s.zbAddress := rfl
@[simp] theorem fetchBatch_maxLevel (c : Call) (q : List Word) : (fetchBatch s c q).maxLevel = s.maxLevel := rfl
@[simp] theorem fetchBatch_noiseSeed (c : Call) (q : List Word) : (fetchBatch s c q).noiseSeed = s.noiseSeed := rfl
@[simp] theorem fetchBatch_tiles (c : Call) (q : List Word) : (fetchBatch s c q).tiles = s.tiles := rfl
@[simp] theorem fetchBatch_scratch (c : Call) (q : List Word) : (fetchBatch s c q).scratch = s.scratch := rfl

/-! ## `finishCall` -/

@[simp] theorem finishCall_cfg : (finishCall s).cfg = s.cfg := rfl
@[simp] theorem finishCall_startc : (finishCall s).startc = s.startc := rfl
@[simp] theorem finishCall_endc : (finishCall s).endc = s.endc := rfl
@[simp] theorem finishCall_current : (finishCall s).current = s.endc := rfl
@[simp] theorem finishCall_xbus : (finishCall s).xbus = s.xbus := rfl
@[simp] theorem finishCall_crashed : (finishCall s).crashed = s.crashed := rfl
@[simp] theorem finishCall_cmdq : (finishCall s).cmdq = if s.crashed then [] else pending s := rfl
@[simp] theorem finishCall_qCur : (finishCall s).qCur = 0 := rfl
@[simp] theorem finishCall_call : (finishCall s).call = none := rfl
@[simp] theorem finishCall_syncEvents : (finishCall s).syncEvents = s.syncEvents := rfl
@[simp] theorem finishCall_ram : (finishCall s).ram = s.ram := rfl
@[simp] theorem finishCall_tmem : (finishCall s).tmem = s.tmem := rfl
@[simp] theorem finishCall_xmem : (finishCall s).xmem = s.xmem := rfl
@[simp] theorem finishCall_mode : (finishCall s).mode = s.mode := rfl
@[simp] theorem finishCall_combine : (finishCall s).combine = s.combine := rfl
@[simp] theorem finishCall_fogColor : (finishCall s).fogColor = s.fogColor := rfl
@[simp] theorem finishCall_blendColor : (finishCall s).blendColor = s.blendColor := rfl
@[simp] theorem finishCall_envColor : (finishCall s).envColor = s.envColor := rfl
@[simp] theorem finishCall_primColor : (finishCall s).primColor = s.primColor := rfl
@[simp] theorem finishCall_minLevel : (finishCall s).minLevel = s.minLevel := rfl
@[simp] theorem finishCall_primLodFrac : (finishCall s).primLodFrac = s.primLodFrac := rfl
@[simp] theorem finishCall_fillColor : (finishCall s).fillColor = s.fillColor := rfl
@[simp] theorem finishCall_keyCenter : (finishCall s).keyCenter = s.keyCenter := rfl
@[simp] theorem finishCall_keyScale : (finishCall s).keyScale = s.keyScale := rfl
@[simp] theorem finishCall_keyWidth : (finishCall s).keyWidth = s.keyWidth := rfl
@[simp] theorem finishCall_k0 : (finishCall s).k0 = s.k0 := rfl
@[simp] theorem finishCall_k1 : (finishCall s).k1 = s.k1 := rfl
@[simp] theorem finishCall_k2 : (finishCall s).k2 = s.k2 := rfl
@[simp] theorem finishCall_k3 : (finishCall s).k3 = s.k3 := rfl
@[simp] theorem finishCall_k4 : (finishCall s).k4 = s.k4 := rfl
@[simp] theorem finishCall_k5 : (finishCall s).k5 = s.k5 := rfl
@[simp] theorem finishCall_primZ : (finishCall s).primZ = s.primZ := rfl
@[simp] theorem finishCall_primDz : (finishCall s).primDz = s.primDz := rfl
@[simp] theorem finishCall_clipXh : (finishCall s).clipXh = s.clipXh := rfl
@[simp] theorem finishCall_clipYh : (finishCall s).clipYh = s.clipYh := rfl
@[simp] theorem finishCall_clipXl : (finishCall s).clipXl = s.clipXl := rfl
@[simp] theorem finishCall_clipYl : (finishCall s).clipYl = s.clipYl := rfl
@[simp] theorem finishCall_scfield : (finishCall s).scfield = s.scfield := rfl
@[simp] theorem finishCall_sckeepodd : (finishCall s).sckeepodd = s.sckeepodd := rfl
@[simp] theorem finishCall_fbFormat : (finishCall s).fbFormat = s.fbFormat := rfl
@[simp] theorem finishCall_fbSize : (finishCall s).fbSize = s.fbSize := rfl
@[simp] theorem finishCall_fbWidth : (finishCall s).fbWidth = s.fbWidth := rfl
@[simp] theorem finishCall_fbAddress : (finishCall s).fbAddress = s.fbAddress := rfl
@[simp] theorem finishCall_tiFormat : (finishCall s).tiFormat = s.tiFormat := rfl
@[simp] theorem finishCall_tiSize : (finishCall s).tiSize = s.tiSize := rfl
@[simp] theorem finishCall_tiWidth : (finishCall s).tiWidth = s.tiWidth := rfl
@[simp] theorem finishCall_tiAddress : (finishCall s).tiAddress = s.tiAddress := rfl
@[simp] theorem finishCall_zbAddress : (finishCall s).zbAddress = s.zbAddress := rfl
@[simp] theorem finishCall_maxLevel : (finishCall s).maxLevel = s.maxLevel := rfl
@[simp] theorem finishCall_noiseSeed : (finishCall s).noiseSeed = s.noiseSeed := rfl
@[simp] theorem finishCall_tiles : (finishCall s).tiles = s.tiles := rfl
@[simp] theorem finishCall_scratch : (finishCall s).scratch = s.scratch := rfl

/-! ## `resetLatch` -/

@[simp] theorem resetLatch_cfg : (resetLatch s).cfg = s.cfg := rfl
@[simp] theorem resetLatch_startc : (resetLatch s).startc = s.startc := rfl
@[simp] theorem resetLatch_endc : (resetLatch s).endc = s.endc := rfl
@[simp] theorem resetLatch_current : (resetLatch s).current = s.current := rfl
@[simp] theorem resetLatch_xbus : (resetLatch s).xbus = s.xbus := rfl
@[simp] theorem resetLatch_crashed : (resetLatch s).crashed = false := rfl
@[simp] theorem resetLatch_cmdq : (resetLatch s).cmdq = [] := rfl
@[simp] theorem resetLatch_qCur : (resetLatch s).qCur = 0 := rfl
@[simp] theorem resetLatch_call : (resetLatch s).call = s.call := rfl
@[simp] theorem resetLatch_syncEvents : (resetLatch s).syncEvents = s.syncEvents := rfl
@[simp] theorem resetLatch_ram : (resetLatch s).ram = s.ram := rfl
@[simp] theorem resetLatch_tmem : (resetLatch s).tmem = s.tmem := rfl
@[simp] theorem resetLatch_xmem : (resetLatch s).xmem = s.xmem := rfl
@[simp] theorem resetLatch_mode : (resetLatch s).mode = OtherModes.zero := rfl
@[simp] theorem resetLatch_combine : (resetLatch s).combine = s.combine := rfl
@[simp] theorem resetLatch_fogColor : (resetLatch s).fogColor = s.fogColor := rfl
@[simp] theorem resetLatch_blendColor : (resetLatch s).blendColor = s.blendColor := rfl
@[simp] theorem resetLatch_envColor : (resetLatch s).envColor = s.envColor := rfl
@[simp] theorem resetLatch_primColor : (resetLatch s).primColor = s.primColor := rfl
@[simp] theorem resetLatch_minLevel : (resetLatch s).minLevel = s.minLevel := rfl
@[simp] theorem resetLatch_primLodFrac : (resetLatch s).primLodFrac = s.primLodFrac := rfl
@[simp] theorem resetLatch_fillColor : (resetLatch s).fillColor = s.fillColor := rfl
@[simp] theorem resetLatch_keyCenter : (resetLatch s).keyCenter = s.keyCenter := rfl
@[simp] theorem resetLatch_keyScale : (resetLatch s).keyScale = s.keyScale := rfl
@[simp] theorem resetLatch_keyWidth : (resetLatch s).keyWidth = s.keyWidth := rfl
@[simp] theorem resetLatch_k0 : (resetLatch s).k0 = s.k0 := rfl
@[simp] theorem resetLatch_k1 : (resetLatch s).k1 = s.k1 := rfl
@[simp] theorem resetLatch_k2 : (resetLatch s).k2 = s.k2 := rfl
@[simp] theorem resetLatch_k3 : (resetLatch s).k3 = s.k3 := rfl
@[simp] theorem resetLatch_k4 : (resetLatch s).k4 = s.k4 := rfl
@[simp] theorem resetLatch_k5 : (resetLatch s).k5 = s.k5 := rfl
@[simp] theorem resetLatch_primZ : (resetLatch s).primZ = s.primZ := rfl
@[simp] theorem resetLatch_primDz : (resetLatch s).primDz = s.primDz := rfl
@[simp] theorem resetLatch_clipXh : (resetLatch s).clipXh = 0 := rfl
@[simp] theorem resetLatch_clipYh : (resetLatch s).clipYh = 0 := rfl
@[simp] theorem resetLatch_clipXl : (resetLatch s).clipXl = 0 := rfl
@[simp] theorem resetLatch_clipYl : (resetLatch s).clipYl = 0 := rfl
@[simp] theorem resetLatch_scfield : (resetLatch s).scfield = false := rfl
@[simp] theorem resetLatch_sckeepodd : (resetLatch s).sckeepodd = false := rfl
@[simp] theorem resetLatch_fbFormat : (resetLatch s).fbFormat = s.fbFormat := rfl
@[simp] theorem resetLatch_fbSize : (resetLatch s).fbSize = s.fbSize := rfl
@[simp] theorem resetLatch_fbWidth : (resetLatch s).fbWidth = s.fbWidth := rfl
@[simp] theorem resetLatch_fbAddress : (resetLatch s).fbAddress = s.fbAddress := rfl
@[simp] theorem resetLatch_tiFormat : (resetLatch s).tiFormat = s.tiFormat := rfl
@[simp] theorem resetLatch_tiSize : (resetLatch s).tiSize = s.tiSize := rfl
@[simp] theorem resetLatch_tiWidth : (resetLatch s).tiWidth = s.tiWidth := rfl
@[simp] theorem resetLatch_tiAddress : (resetLatch s).tiAddress = s.tiAddress := rfl
@[simp] theorem resetLatch_zbAddress : (resetLatch s).zbAddress = s.zbAddress := rfl
@[simp] theorem resetLatch_maxLevel : (resetLatch s).maxLevel = s.maxLevel := rfl
@[simp] theorem resetLatch_noiseSeed : (resetLatch s).noiseSeed = s.noiseSeed := rfl
@[simp] theorem resetLatch_tiles : (resetLatch s).tiles = s.tiles := rfl
@[simp] theorem resetLatch_scratch : (resetLatch s).scratch = s.scratch := rfl

end Sys2Proof.Machine
end

