-- ==== Sys2Proof/Laws/Exec.lean ====
section
/-! SUPPORT. What each kind of command can do, said once (40_command_processor.md R179, 45_primitive_commands.md R320,
44_load_commands.md R290, 42_mode_commands.md R220, 43_image_tile_commands.md R260). -/

namespace Sys2Proof.Machine

/-- A drawing command is the edge walk of its block. -/
theorem exec_drawing {i : Instr} (h : drawing i = true) (s : State) :
    exec i s = .next (edgeWalk s (blockOf s.mode.cycleType i)) := by
  cases i <;> first | rfl | cases h

/-- A load command answers a next state in which at most one tile's extent, TMEM, the latch and the transient state differ. -/
theorem exec_loading {i : Instr} (h : loading i = true) (s : State) :
    ∃ t, exec i s = .next t ∧
      t = { s with tiles := t.tiles, tmem := t.tmem, crashed := t.crashed, scratch := t.scratch } := by
  cases i
  case loadTile o => exact ⟨_, rfl, by rw [loadSpans_frame]; rfl⟩
  case loadBlock o => exact ⟨_, rfl, by rw [loadSpans_frame]; rfl⟩
  case loadTlut o =>
    simp only [exec, execLoadTlut]
    split
    · refine ⟨_, rfl, ?_⟩
      split <;> rfl
    · exact ⟨_, rfl, by rw [loadSpans_frame]; rfl⟩
  all_goals cases h

/-- A command that neither draws nor loads leaves memory, texture memory, the latch, the noise state, `max_level` and the transient
state. -/
theorem exec_setting {i : Instr} (hd : drawing i = false) (hl : loading i = false) (s : State) :
    ∃ t, exec i s = .next t ∧ t.ram = s.ram ∧ t.tmem = s.tmem ∧ t.crashed = s.crashed ∧ t.noiseSeed = s.noiseSeed ∧
      t.maxLevel = s.maxLevel ∧ t.scratch = s.scratch := by
  cases i <;> first | exact ⟨_, rfl, rfl, rfl, rfl, rfl, rfl, rfl⟩ | (cases hl; done) | cases hd

/-- The latch after an edge walk: set if it was, or if the pipeline refuses the colour image. -/
theorem edgeWalk_crashed (s : State) (ew : List Word) :
    (edgeWalk s ew).crashed = (s.crashed || (renderBlock s ew).isNone) := by
  cases hr : renderBlock s ew with
  | none => rw [edgeWalk_none hr]; simp
  | some pipe => rw [edgeWalk_some hr]; simp

/-- When the pipeline of a block refuses the colour image (60_exceptions.md R601). -/
theorem renderBlock_none (s : State) (ew : List Word) :
    renderBlock s ew = none ↔
      (s.mode.cycleType = .fill ∧ s.fbSize.toNat = 0) ∨ (s.mode.cycleType = .copy ∧ s.fbSize.toNat = 0) ∨
        (s.mode.cycleType = .copy ∧ s.fbSize.toNat = 3 ∧ s.cfg.copy32Lockup = true) :=
  renderSpans_none (afterWalk s ew) _ _ _ _

/-- The latch after the load loop (44_load_commands.md R297). -/
theorem loadSpans_crashed (s : State) (n : BitVec 3) (k : LoadKind) (ps : List LoadSpan) :
    (loadSpans s n k ps).crashed = (s.crashed || (decide (s.tiSize.toNat = 0) && s.cfg.loadLockup)) := by
  unfold loadSpans
  dsimp only
  split
  · rename_i h
    split
    · rename_i hl
      simp [h, hl]
    · rename_i hl
      simp [h, hl]
  · rename_i h
    simp [h]

end Sys2Proof.Machine
end

