-- ==== Sys2Proof/Laws/Control.lean ====
section
/-! SUPPORT. No handler reads the queue or the call in progress, so what a command does is the same whatever they hold
(40_command_processor.md R179, R174). -/

namespace Sys2Proof.Machine

/-- The state with another queue and call in progress. -/
def State.withQueue (s : State) (q : List Word) (n : Nat) (c : Option Call) : State :=
  { s with cmdq := q, qCur := n, call := c }

section
variable (s : State) (q : List Word) (n : Nat) (c : Option Call)

@[simp] theorem withQueue_cfg : (s.withQueue q n c).cfg = s.cfg := rfl
@[simp] theorem withQueue_startc : (s.withQueue q n c).startc = s.startc := rfl
@[simp] theorem withQueue_endc : (s.withQueue q n c).endc = s.endc := rfl
@[simp] theorem withQueue_current : (s.withQueue q n c).current = s.current := rfl
@[simp] theorem withQueue_xbus : (s.withQueue q n c).xbus = s.xbus := rfl
@[simp] theorem withQueue_crashed : (s.withQueue q n c).crashed = s.crashed := rfl
@[simp] theorem withQueue_syncEvents : (s.withQueue q n c).syncEvents = s.syncEvents := rfl
@[simp] theorem withQueue_ram : (s.withQueue q n c).ram = s.ram := rfl
@[simp] theorem withQueue_tmem : (s.withQueue q n c).tmem = s.tmem := rfl
@[simp] theorem withQueue_xmem : (s.withQueue q n c).xmem = s.xmem := rfl
@[simp] theorem withQueue_mode : (s.withQueue q n c).mode = s.mode := rfl
@[simp] theorem withQueue_combine : (s.withQueue q n c).combine = s.combine := rfl
@[simp] theorem withQueue_fogColor : (s.withQueue q n c).fogColor = s.fogColor := rfl
@[simp] theorem withQueue_blendColor : (s.withQueue q n c).blendColor = s.blendColor := rfl
@[simp] theorem withQueue_envColor : (s.withQueue q n c).envColor = s.envColor := rfl
@[simp] theorem withQueue_primColor : (s.withQueue q n c).primColor = s.primColor := rfl
@[simp] theorem withQueue_minLevel : (s.withQueue q n c).minLevel = s.minLevel := rfl
@[simp] theorem withQueue_primLodFrac : (s.withQueue q n c).primLodFrac = s.primLodFrac := rfl
@[simp] theorem withQueue_fillColor : (s.withQueue q n c).fillColor = s.fillColor := rfl
@[simp] theorem withQueue_keyCenter : (s.withQueue q n c).keyCenter = s.keyCenter := rfl
@[simp] theorem withQueue_keyScale : (s.withQueue q n c).keyScale = s.keyScale := rfl
@[simp] theorem withQueue_keyWidth : (s.withQueue q n c).keyWidth = s.keyWidth := rfl
@[simp] theorem withQueue_k0 : (s.withQueue q n c).k0 = s.k0 := rfl
@[simp] theorem withQueue_k1 : (s.withQueue q n c).k1 = s.k1 := rfl
@[simp] theorem withQueue_k2 : (s.withQueue q n c).k2 = s.k2 := rfl
@[simp] theorem withQueue_k3 : (s.withQueue q n c).k3 = s.k3 := rfl
@[simp] theorem withQueue_k4 : (s.withQueue q n c).k4 = s.k4 := rfl
@[simp] theorem withQueue_k5 : (s.withQueue q n c).k5 = s.k5 := rfl
@[simp] theorem withQueue_primZ : (s.withQueue q n c).primZ = s.primZ := rfl
@[simp] theorem withQueue_primDz : (s.withQueue q n c).primDz = s.primDz := rfl
@[simp] theorem withQueue_clipXh : (s.withQueue q n c).clipXh = s.clipXh := rfl
@[simp] theorem withQueue_clipYh : (s.withQueue q n c).clipYh = s.clipYh := rfl
@[simp] theorem withQueue_clipXl : (s.withQueue q n c).clipXl = s.clipXl := rfl
@[simp] theorem withQueue_clipYl : (s.withQueue q n c).clipYl = s.clipYl := rfl
@[simp] theorem withQueue_scfield : (s.withQueue q n c).scfield = s.scfield := rfl
@[simp] theorem withQueue_sckeepodd : (s.withQueue q n c).sckeepodd = s.sckeepodd := rfl
@[simp] theorem withQueue_fbFormat : (s.withQueue q n c).fbFormat = s.fbFormat := rfl
@[simp] theorem withQueue_fbSize : (s.withQueue q n c).fbSize = s.fbSize := rfl
@[simp] theorem withQueue_fbWidth : (s.withQueue q n c).fbWidth = s.fbWidth := rfl
@[simp] theorem withQueue_fbAddress : (s.withQueue q n c).fbAddress = s.fbAddress := rfl
@[simp] theorem withQueue_tiFormat : (s.withQueue q n c).tiFormat = s.tiFormat := rfl
@[simp] theorem withQueue_tiSize : (s.withQueue q n c).tiSize = s.tiSize := rfl
@[simp] theorem withQueue_tiWidth : (s.withQueue q n c).tiWidth = s.tiWidth := rfl
@[simp] theorem withQueue_tiAddress : (s.withQueue q n c).tiAddress = s.tiAddress := rfl
@[simp] theorem withQueue_zbAddress : (s.withQueue q n c).zbAddress = s.zbAddress := rfl
@[simp] theorem withQueue_maxLevel : (s.withQueue q n c).maxLevel = s.maxLevel := rfl
@[simp] theorem withQueue_noiseSeed : (s.withQueue q n c).noiseSeed = s.noiseSeed := rfl
@[simp] theorem withQueue_tiles : (s.withQueue q n c).tiles = s.tiles := rfl
@[simp] theorem withQueue_scratch : (s.withQueue q n c).scratch = s.scratch := rfl
@[simp] theorem getTile_withQueue : getTile (s.withQueue q n c) = getTile s := rfl
@[simp] theorem tcDiv_withQueue : tcDiv (s.withQueue q n c) = tcDiv s := by
  funext x0 x1 x2
  rfl
@[simp] theorem fetchTexel_withQueue : fetchTexel (s.withQueue q n c) = fetchTexel s := by
  funext x0 x1 x2 x3
  rfl
@[simp] theorem convertTexel_withQueue : convertTexel (s.withQueue q n c) = convertTexel s := by
  funext x0 x1 x2
  simp [convertTexel]
@[simp] theorem texCycle_withQueue : texCycle (s.withQueue q n c) = texCycle s := by
  funext x0 x1 x2 x3 x4
  simp [texCycle]
@[simp] theorem lodSignals_withQueue : lodSignals (s.withQueue q n c) = lodSignals s := by
  funext x0 x1
  rfl
@[simp] theorem lodTiles_withQueue : lodTiles (s.withQueue q n c) = lodTiles s := by
  funext x0 x1
  simp [lodTiles]
@[simp] theorem texPoint_withQueue : texPoint (s.withQueue q n c) = texPoint s := by
  funext x0 x1
  simp [texPoint]
@[simp] theorem texStage1_withQueue : texStage1 (s.withQueue q n c) = texStage1 s := by
  funext x0 x1 x2
  simp [texStage1]
@[simp] theorem texStage2_withQueue : texStage2 (s.withQueue q n c) = texStage2 s := by
  funext x0 x1
  simp [texStage2]
@[simp] theorem commonSource_withQueue : commonSource (s.withQueue q n c) = commonSource s := by
  funext x0 x1
  simp [commonSource]
@[simp] theorem rgbA_withQueue : rgbA (s.withQueue q n c) = rgbA s := by
  funext x0 x1
  simp [rgbA]
@[simp] theorem rgbB_withQueue : rgbB (s.withQueue q n c) = rgbB s := by
  funext x0 x1
  simp [rgbB]
@[simp] theorem rgbC_withQueue : rgbC (s.withQueue q n c) = rgbC s := by
  funext x0 x1
  simp [rgbC]
@[simp] theorem rgbD_withQueue : rgbD (s.withQueue q n c) = rgbD s := by
  funext x0 x1
  simp [rgbD]
@[simp] theorem alphaABD_withQueue : alphaABD (s.withQueue q n c) = alphaABD s := by
  funext x0 x1
  simp [alphaABD]
@[simp] theorem alphaC_withQueue : alphaC (s.withQueue q n c) = alphaC s := by
  funext x0 x1
  simp [alphaC]
@[simp] theorem combineStage_withQueue : combineStage (s.withQueue q n c) = combineStage s := by
  funext x0 x1
  simp [combineStage]
@[simp] theorem keyAlpha_withQueue : keyAlpha (s.withQueue q n c) = keyAlpha s := by
  funext x0
  simp [keyAlpha]
@[simp] theorem combineFinish_withQueue : combineFinish (s.withQueue q n c) = combineFinish s := by
  funext x0 x1 x2 x3
  rfl
@[simp] theorem combiner1_withQueue : combiner1 (s.withQueue q n c) = combiner1 s := by
  funext x0 x1 x2
  simp [combiner1]
@[simp] theorem combiner2_withQueue : combiner2 (s.withQueue q n c) = combiner2 s := by
  funext x0 x1 x2 x3
  simp [combiner2]
@[simp] theorem rand_withQueue : rand (s.withQueue q n c) = rand s := by
  funext x0
  simp [rand]
@[simp] theorem ditherOf_withQueue : ditherOf (s.withQueue q n c) = ditherOf s := by
  funext x0 x1 x2 x3
  rfl
@[simp] theorem rgbDither_withQueue : rgbDither (s.withQueue q n c) = rgbDither s := by
  funext x0 x1
  rfl
@[simp] theorem comparesNoise_withQueue : comparesNoise (s.withQueue q n c) = comparesNoise s := by
  simp [comparesNoise]
@[simp] theorem alphaPasses_withQueue : alphaPasses (s.withQueue q n c) = alphaPasses s := by
  funext x0 x1
  rfl
@[simp] theorem blendColor_withQueue : blendColor (s.withQueue q n c) = blendColor s := by
  funext x0 x1 x2
  simp [blendColor]
@[simp] theorem weight1_withQueue : weight1 (s.withQueue q n c) = weight1 s := by
  funext x0 x1
  simp [weight1]
@[simp] theorem blendChannel_withQueue : blendChannel (s.withQueue q n c) = blendChannel s := by
  funext x0 x1 x2 x3 x4
  simp [blendChannel]
@[simp] theorem blendPass_withQueue : blendPass (s.withQueue q n c) = blendPass s := by
  funext x0 x1 x2 x3 x4
  simp [blendPass]
@[simp] theorem coverDraws_withQueue : coverDraws (s.withQueue q n c) = coverDraws s := by
  funext x0 x1
  simp [coverDraws]
@[simp] theorem colorUpdates_withQueue : colorUpdates (s.withQueue q n c) = colorUpdates s := by
  funext x0
  simp [colorUpdates]
@[simp] theorem lastInvAlpha_withQueue : lastInvAlpha (s.withQueue q n c) = lastInvAlpha s := by
  funext x0 x1 x2 x3
  simp [lastInvAlpha]
@[simp] theorem blendLast_withQueue : blendLast (s.withQueue q n c) = blendLast s := by
  funext x0 x1 x2 x3 x4
  simp [blendLast]
@[simp] theorem blendFirst_withQueue : blendFirst (s.withQueue q n c) = blendFirst s := by
  funext x0
  simp [blendFirst]
@[simp] theorem blender1_withQueue : blender1 (s.withQueue q n c) = blender1 s := by
  funext x0 x1 x2
  simp [blender1]
@[simp] theorem blender2_withQueue : blender2 (s.withQueue q n c) = blender2 s := by
  funext x0 x1 x2
  simp [blender2]
@[simp] theorem blender1Regs_withQueue : blender1Regs (s.withQueue q n c) = blender1Regs s := by
  funext x0 x1
  simp [blender1Regs]
@[simp] theorem blender2Regs_withQueue : blender2Regs (s.withQueue q n c) = blender2Regs s := by
  funext x0 x1
  simp [blender2Regs]
@[simp] theorem zModeResult_withQueue : zModeResult (s.withQueue q n c) = zModeResult s := by
  funext x0 x1 x2 x3 x4
  simp [zModeResult]
@[simp] theorem zCompare_withQueue : zCompare (s.withQueue q n c) = zCompare s := by
  funext x0 x1
  rfl
@[simp] theorem pixelIndex_withQueue : pixelIndex (s.withQueue q n c) = pixelIndex s := by
  funext x0 x1
  simp [pixelIndex]
@[simp] theorem fbByte_withQueue : fbByte (s.withQueue q n c) = fbByte s := by
  funext x0
  simp [fbByte]
@[simp] theorem fbHalf_withQueue : fbHalf (s.withQueue q n c) = fbHalf s := by
  funext x0
  simp [fbHalf]
@[simp] theorem fbWord_withQueue : fbWord (s.withQueue q n c) = fbWord s := by
  funext x0
  simp [fbWord]
@[simp] theorem zHalf_withQueue : zHalf (s.withQueue q n c) = zHalf s := by
  funext x0
  simp [zHalf]
@[simp] theorem fbPixel_withQueue : fbPixel (s.withQueue q n c) = fbPixel s := by
  funext x0 x1 x2 x3
  rfl
@[simp] theorem fbRead_withQueue : fbRead (s.withQueue q n c) = fbRead s := by
  funext x0 x1
  simp [fbRead]
@[simp] theorem finalCvg_withQueue : finalCvg (s.withQueue q n c) = finalCvg s := by
  funext x0 x1 x2
  simp [finalCvg]
@[simp] theorem fbWrite_withQueue : fbWrite (s.withQueue q n c) = fbWrite s := by
  funext x0 x1 x2 x3
  simp [fbWrite]
@[simp] theorem fbFill_withQueue : fbFill (s.withQueue q n c) = fbFill s := by
  funext x0 x1
  simp [fbFill]
@[simp] theorem copyWrite_withQueue : copyWrite (s.withQueue q n c) = copyWrite s := by
  funext x0 x1 x2
  simp [copyWrite]
@[simp] theorem walkPlan_withQueue : walkPlan (s.withQueue q n c) = walkPlan s := by
  funext x0
  simp [walkPlan]
@[simp] theorem walkSpans_withQueue : walkSpans (s.withQueue q n c) = walkSpans s := by
  funext x0
  simp [walkSpans]
@[simp] theorem primEnv_withQueue : primEnv (s.withQueue q n c) = primEnv s := by
  funext x0 x1 x2
  rfl
@[simp] theorem fillPixels_withQueue : fillPixels (s.withQueue q n c) = fillPixels s := by
  funext x0 x1
  simp [fillPixels]
@[simp] theorem renderFill_withQueue : renderFill (s.withQueue q n c) = renderFill s := by
  funext x0 x1 x2 x3
  simp [renderFill]
@[simp] theorem copyCoord_withQueue : copyCoord (s.withQueue q n c) = copyCoord s := by
  funext x0 x1
  simp [copyCoord]
@[simp] theorem copyTexel_withQueue : copyTexel (s.withQueue q n c) = copyTexel s := by
  funext x0 x1 x2
  rfl
@[simp] theorem copyDraws_withQueue : copyDraws (s.withQueue q n c) = copyDraws s := by
  simp [copyDraws]
@[simp] theorem copyThreshold_withQueue : copyThreshold (s.withQueue q n c) = copyThreshold s := by
  funext x0
  rfl
@[simp] theorem copyKeep_withQueue : copyKeep (s.withQueue q n c) = copyKeep s := by
  funext x0 x1
  simp [copyKeep]
@[simp] theorem copyGroup_withQueue : copyGroup (s.withQueue q n c) = copyGroup s := by
  rfl
@[simp] theorem copyPixel_withQueue : copyPixel (s.withQueue q n c) = copyPixel s := by
  funext x0 x1 x2 x3 x4 x5 x6
  simp [copyPixel]
@[simp] theorem copyStep_withQueue : copyStep (s.withQueue q n c) = copyStep s := by
  funext x0 x1 x2 x3 x4
  simp [copyStep]
@[simp] theorem copyRow_withQueue : copyRow (s.withQueue q n c) = copyRow s := by
  funext x0 x1 x2
  simp [copyRow]
@[simp] theorem renderCopy_withQueue : renderCopy (s.withQueue q n c) = renderCopy s := by
  funext x0 x1 x2 x3
  rfl
@[simp] theorem rowAttrs_withQueue : rowAttrs (s.withQueue q n c) = rowAttrs s := by
  funext x0 x1
  rfl
@[simp] theorem pixelWork_withQueue : pixelWork (s.withQueue q n c) = pixelWork s := by
  funext x0 x1 x2 x3
  simp [pixelWork]
@[simp] theorem depthIn_withQueue : depthIn (s.withQueue q n c) = depthIn s := by
  funext x0 x1 x2 x3
  simp [depthIn]
@[simp] theorem drawPixel_withQueue : drawPixel (s.withQueue q n c) = drawPixel s := by
  funext x0 x1 x2 x3 x4 x5 x6
  simp [drawPixel]
@[simp] theorem blendRegs_withQueue : blendRegs (s.withQueue q n c) = blendRegs s := by
  funext x0 x1 x2 x3
  simp [blendRegs]
@[simp] theorem pixelRegs_withQueue : pixelRegs (s.withQueue q n c) = pixelRegs s := by
  funext x0 x1 x2 x3 x4
  simp [pixelRegs]
@[simp] theorem renderPixel_withQueue : renderPixel (s.withQueue q n c) = renderPixel s := by
  funext x0 x1 x2 x3
  simp [renderPixel]
@[simp] theorem renderRow_withQueue : renderRow (s.withQueue q n c) = renderRow s := by
  funext x0 x1 x2 x3
  simp [renderRow]
@[simp] theorem renderCycle_withQueue : renderCycle (s.withQueue q n c) = renderCycle s := by
  funext x0 x1 x2 x3 x4
  simp [renderCycle]
@[simp] theorem renderSpans_withQueue : renderSpans (s.withQueue q n c) = renderSpans s := by
  funext x0 x1 x2 x3
  simp [renderSpans]
@[simp] theorem yStart_withQueue : yStart (s.withQueue q n c) = yStart s := by
  funext x0
  simp [yStart]
@[simp] theorem yEnd_withQueue : yEnd (s.withQueue q n c) = yEnd s := by
  funext x0
  simp [yEnd]
@[simp] theorem pipeStart_withQueue : pipeStart (s.withQueue q n c) = pipeStart s := by
  simp [pipeStart]
@[simp] theorem rectKind_withQueue : rectKind (s.withQueue q n c) = rectKind s := by
  funext x0 x1
  simp [rectKind]
@[simp] theorem blockKind_withQueue : blockKind (s.withQueue q n c) = blockKind s := by
  funext x0
  simp [blockKind]
@[simp] theorem unitBytes_withQueue : unitBytes (s.withQueue q n c) = unitBytes s := by
  funext x0
  rfl
@[simp] theorem unitTexels_withQueue : unitTexels (s.withQueue q n c) = unitTexels s := by
  funext x0
  rfl
@[simp] theorem sourceByte_withQueue : sourceByte (s.withQueue q n c) = sourceByte s := by
  funext x0
  simp [sourceByte]
@[simp] theorem loadQword_withQueue : loadQword (s.withQueue q n c) = loadQword s := by
  funext x0 x1
  simp [loadQword]
@[simp] theorem loadUnit_withQueue : loadUnit (s.withQueue q n c) = loadUnit s := by
  funext x0 x1 x2
  simp [loadUnit]
@[simp] theorem loadUnits_withQueue : loadUnits (s.withQueue q n c) = loadUnits s := by
  funext t k m
  induction m with
  | zero => rfl
  | succ m ih => funext r; simp only [loadUnits, ih, loadUnit_withQueue]
@[simp] theorem spanUnits_withQueue : spanUnits (s.withQueue q n c) = spanUnits s := by
  funext x0 x1
  simp [spanUnits]
@[simp] theorem spanSource_withQueue : spanSource (s.withQueue q n c) = spanSource s := by
  funext x0
  simp [spanSource]
@[simp] theorem loadSpan_withQueue : loadSpan (s.withQueue q n c) = loadSpan s := by
  funext x0 x1 x2 x3
  simp [loadSpan]

theorem afterWalk_withQueue (ew : List Word) : afterWalk (s.withQueue q n c) ew = (afterWalk s ew).withQueue q n c := by
  unfold afterWalk
  dsimp only
  rw [walkSpans_withQueue]
  rfl

@[simp] theorem renderBlock_withQueue (ew : List Word) : renderBlock (s.withQueue q n c) ew = renderBlock s ew := by
  unfold renderBlock
  dsimp only
  simp only [afterWalk_withQueue, walkSpans_withQueue, primEnv_withQueue, renderSpans_withQueue, yStart_withQueue,
    yEnd_withQueue, pipeStart_withQueue]

theorem edgeWalk_withQueue (ew : List Word) : edgeWalk (s.withQueue q n c) ew = (edgeWalk s ew).withQueue q n c := by
  unfold edgeWalk
  dsimp only
  rw [renderBlock_withQueue, afterWalk_withQueue]
  split <;> rfl

theorem loadSpans_withQueue (m : BitVec 3) (k : LoadKind) (ps : List LoadSpan) :
    loadSpans (s.withQueue q n c) m k ps = (loadSpans s m k ps).withQueue q n c := by
  have hf : loadSpan (s.withQueue q n c) = loadSpan s := loadSpan_withQueue s q n c
  by_cases h0 : s.tiSize.toNat = 0
  · have h0' : (s.withQueue q n c).tiSize.toNat = 0 := h0
    by_cases hl : s.cfg.loadLockup = true
    · have hl' : (s.withQueue q n c).cfg.loadLockup = true := hl
      simp only [loadSpans, if_pos h0, if_pos h0', if_pos hl, if_pos hl']
      rfl
    · have hl' : ¬ (s.withQueue q n c).cfg.loadLockup = true := hl
      simp only [loadSpans, if_pos h0, if_pos h0', if_neg hl, if_neg hl']
      rfl
  · have h0' : ¬ (s.withQueue q n c).tiSize.toNat = 0 := h0
    simp only [loadSpans, if_neg h0, if_neg h0', hf, getTile_withQueue, withQueue_tmem]
    rfl

theorem setExtent_withQueue (o : TileSizeOps) : setExtent (s.withQueue q n c) o = (setExtent s o).withQueue q n c := rfl

/-- The state after the spans of a LOAD_TLUT and before any unit of it. -/
def tlutSpans (s : State) (o : TileSizeOps) : State :=
  { setExtent s o with scratch := { s.scratch with spans := storeSpans s.scratch.spans (rectSpans o) } }

/-- A LOAD_TLUT of more than one row stores nothing in texture memory (R296). -/
theorem execLoadTlut_many (s : State) (o : TileSizeOps) (h : o.th.toNat / 4 > o.tl.toNat / 4) :
    execLoadTlut o s = .next (if s.cfg.loadLockup then raiseCrashed (tlutSpans s o) else tlutSpans s o) := by
  unfold execLoadTlut
  dsimp only
  rw [if_pos h]
  rfl

/-- A command does the same whatever the queue holds, and leaves the queue. -/
theorem exec_withQueue (i : Instr) : exec i (s.withQueue q n c) =
    match exec i s with
    | .next t => .next (t.withQueue q n c)
    | .fault r => .fault r
    | .refused r => .refused r := by
  cases i
  case loadTile o =>
    simp only [exec, execLoadTile, setExtent_withQueue, loadSpans_withQueue, rectKind_withQueue]
  case loadBlock o =>
    simp only [exec, execLoadBlock, setExtent_withQueue, loadSpans_withQueue, blockKind_withQueue]
  case loadTlut o =>
    by_cases h0 : o.th.toNat / 4 > o.tl.toNat / 4
    · show execLoadTlut o (s.withQueue q n c) = match execLoadTlut o s with
        | .next t => .next (t.withQueue q n c)
        | .fault r => .fault r
        | .refused r => .refused r
      rw [execLoadTlut_many s o h0, execLoadTlut_many (s.withQueue q n c) o h0]
      by_cases hl : s.cfg.loadLockup = true
      · rw [if_pos hl, if_pos (show (s.withQueue q n c).cfg.loadLockup = true from hl)]
        rfl
      · rw [if_neg hl, if_neg (show ¬ (s.withQueue q n c).cfg.loadLockup = true from hl)]
        rfl
    · simp only [exec, execLoadTlut, setExtent_withQueue, loadSpans_withQueue, rectKind_withQueue, if_neg h0]
  case triFill e => simp only [exec, execTriFill, edgeWalk_withQueue]
  case triFillZ e z => simp only [exec, execTriFillZ, edgeWalk_withQueue]
  case triTex e x => simp only [exec, execTriTex, edgeWalk_withQueue]
  case triTexZ e x z => simp only [exec, execTriTexZ, edgeWalk_withQueue]
  case triShade e x => simp only [exec, execTriShade, edgeWalk_withQueue]
  case triShadeZ e x z => simp only [exec, execTriShadeZ, edgeWalk_withQueue]
  case triShadeTex e x y => simp only [exec, execTriShadeTex, edgeWalk_withQueue]
  case triShadeTexZ e x y z => simp only [exec, execTriShadeTexZ, edgeWalk_withQueue]
  case textureRectangle o => simp only [exec, execTextureRectangle, withQueue_mode, edgeWalk_withQueue]
  case textureRectangleFlip o => simp only [exec, execTextureRectangleFlip, withQueue_mode, edgeWalk_withQueue]
  case fillRectangle o => simp only [exec, execFillRectangle, withQueue_mode, edgeWalk_withQueue]
  all_goals rfl
end

end Sys2Proof.Machine
end

