-- ==== Sys2Proof/Laws/Decode.lean ====
section
/-! SUPPORT. Decoding never refuses an opcode, and what a field of assembled words is (30_encoding.md R121 to R123, R156). -/

namespace Sys2Proof

/-- Every opcode decodes, to an instruction of that opcode. -/
theorem decodeOp_some (op : BitVec 6) (w : Nat → Word) : ∃ i, decodeOp op w = some i ∧ i.op = op := by
  have small : op.toNat < 64 := op.isLt
  unfold decodeOp
  split
  case h_65 =>
    exfalso
    simp only [imp_false] at *
    omega
  all_goals exact ⟨_, rfl, BitVec.eq_of_toNat_eq (Eq.symm ‹op.toNat = _›)⟩

/-- A whole command decodes, to an instruction of the opcode in its first word, and leaves the words after it. -/
theorem decodeWords_whole {ws : List Word} (h : cmdLen (opcodeOf (ws.getD 0 0)) ≤ ws.length) :
    ∃ i, decodeWords ws = .ok (i, ws.drop (cmdLen i.op)) ∧ i.op = opcodeOf (ws.getD 0 0) := by
  obtain ⟨i, hi, ho⟩ := decodeOp_some (opcodeOf (ws.getD 0 0)) (fun k => ws.getD k 0)
  refine ⟨i, ?_, ho⟩
  simp only [decodeWords, if_neg (Nat.not_lt.2 h), hi, ho]

theorem cmdLen_pos (op : BitVec 6) : 2 ≤ cmdLen op := by
  unfold cmdLen
  split <;> omega

theorem cmdLen_le (op : BitVec 6) : cmdLen op ≤ 44 := by
  unfold cmdLen
  split <;> omega

theorem cmdLen_even (op : BitVec 6) : cmdLen op % 2 = 0 := by
  unfold cmdLen
  split <;> rfl

/-! ## Fields of assembled words -/

/-- A field that lies in the lower part of a concatenation. -/
theorem extract_append_low {m n : Nat} (a : BitVec m) (b : BitVec n) (lo k : Nat) (h : lo + k ≤ n) :
    (a ++ b).extractLsb' lo k = b.extractLsb' lo k := by
  apply BitVec.eq_of_getLsbD_eq
  intro i hi
  simp only [BitVec.getLsbD_extractLsb', BitVec.getLsbD_append, show lo + i < n by omega, if_true]

/-- A field that lies in the upper part of a concatenation. -/
theorem extract_append_high {m n : Nat} (a : BitVec m) (b : BitVec n) (lo k : Nat) (h : n ≤ lo) :
    (a ++ b).extractLsb' lo k = a.extractLsb' (lo - n) k := by
  apply BitVec.eq_of_getLsbD_eq
  intro i hi
  simp only [BitVec.getLsbD_extractLsb', BitVec.getLsbD_append, show ¬ lo + i < n by omega, if_false,
    show lo + i - n = lo - n + i by omega]

/-- The whole of a bit vector as a field of itself. -/
theorem extract_self {n : Nat} (a : BitVec n) : a.extractLsb' 0 n = a := by
  apply BitVec.eq_of_getLsbD_eq
  intro i hi
  simp [hi]

/-- A bit that lies in the lower part of a concatenation. -/
theorem getLsbD_append_low {m n : Nat} (a : BitVec m) (b : BitVec n) (i : Nat) (h : i < n) :
    (a ++ b).getLsbD i = b.getLsbD i := by
  simp [BitVec.getLsbD_append, h]

/-- A bit that lies in the upper part of a concatenation. -/
theorem getLsbD_append_high {m n : Nat} (a : BitVec m) (b : BitVec n) (i : Nat) (h : n ≤ i) :
    (a ++ b).getLsbD i = a.getLsbD (i - n) := by
  simp [BitVec.getLsbD_append, Nat.not_lt.2 h]

/-- The one bit of a truth value. -/
@[simp] theorem getLsbD_bitOf (b : Bool) : (bitOf b).getLsbD 0 = b := by
  cases b <;> rfl

@[simp] theorem cycleTypeOfBits_bits (c : CycleType) : cycleTypeOfBits (cycleTypeBits c) = c := by
  cases c <;> rfl

@[simp] theorem zModeOfBits_bits (m : ZMode) : zModeOfBits (zModeBits m) = m := by
  cases m <;> rfl

@[simp] theorem cvgDestOfBits_bits (d : CvgDest) : cvgDestOfBits (cvgDestBits d) = d := by
  cases d <;> rfl

/-- The opcode of an encoded first word. -/
@[simp] theorem opcodeOf_headWord (op : BitVec 6) (rest : BitVec 24) : opcodeOf (headWord op rest) = op := by
  unfold opcodeOf headWord fieldOf
  rw [extract_append_high _ _ _ _ (by omega), extract_append_low _ _ _ _ (by omega)]
  exact extract_self op

/-- A field of the operand bits of an encoded first word. -/
theorem fieldOf_headWord (op : BitVec 6) (rest : BitVec 24) (lo k : Nat) (h : lo + k ≤ 24) :
    fieldOf (headWord op rest) lo k = rest.extractLsb' lo k := extract_append_low _ _ _ _ h

/-- A bit of the operand bits of an encoded first word. -/
theorem flagOf_headWord (op : BitVec 6) (rest : BitVec 24) (i : Nat) (h : i < 24) :
    flagOf (headWord op rest) i = rest.getLsbD i := getLsbD_append_low _ _ _ h

/-- The two halves of a word, joined, are the word. -/
theorem halves_join (w : Word) : w.extractLsb' 16 16 ++ w.extractLsb' 0 16 = w := by
  rw [BitVec.extractLsb'_append_extractLsb'_eq_extractLsb' (by omega)]
  exact extract_self w

/-- The first of an integer and fraction pair is recovered. -/
theorem hiOf_pair (p q r : Word) : hiOf (intPair p q) (fracPair p r) = p := by
  unfold hiOf intPair fracPair fieldOf
  rw [extract_append_high _ _ _ _ (by omega), extract_append_high _ _ _ _ (by omega), extract_self, extract_self]
  exact halves_join p

/-- The second of an integer and fraction pair is recovered. -/
theorem loOf_pair (p q r : Word) : loOf (intPair q p) (fracPair r p) = p := by
  unfold loOf intPair fracPair fieldOf
  rw [extract_append_low _ _ _ _ (by omega), extract_append_low _ _ _ _ (by omega), extract_self, extract_self]
  exact halves_join p

/-! ## The blocks of a triangle -/

/-- Words that hold a shade block at `k` decode to it. -/
theorem decodeShade_words (c : ShadeBlock) (w : Nat → Word) (k : Nat)
    (h : ∀ j, j < 16 → w (k + j) = (shadeWords c).getD j 0) : decodeShade w k = c := by
  have h0 := h 0 (by omega); have h1 := h 1 (by omega); have h2 := h 2 (by omega); have h3 := h 3 (by omega)
  have h4 := h 4 (by omega); have h5 := h 5 (by omega); have h6 := h 6 (by omega); have h7 := h 7 (by omega)
  have h8 := h 8 (by omega); have h9 := h 9 (by omega); have h10 := h 10 (by omega); have h11 := h 11 (by omega)
  have h12 := h 12 (by omega); have h13 := h 13 (by omega); have h14 := h 14 (by omega); have h15 := h 15 (by omega)
  simp only [shadeWords, rgbaWords, List.cons_append, List.nil_append, List.getD_cons_zero, List.getD_cons_succ,
    Nat.add_zero] at *
  simp only [decodeShade, decodeRgbaGroup, Nat.add_assoc, Nat.reduceAdd, h0, h1, h2, h3, h4, h5, h6, h7, h8, h9, h10, h11,
    h12, h13, h14, h15, hiOf_pair, loOf_pair]

/-- Words that hold a texture block at `k` decode to it. -/
theorem decodeTex_words (x : TexBlock) (w : Nat → Word) (k : Nat)
    (h : ∀ j, j < 16 → w (k + j) = (texWords x).getD j 0) : decodeTex w k = x := by
  have h0 := h 0 (by omega); have h1 := h 1 (by omega); have h2 := h 2 (by omega); have h3 := h 3 (by omega)
  have h4 := h 4 (by omega); have h5 := h 5 (by omega); have h6 := h 6 (by omega); have h7 := h 7 (by omega)
  have h8 := h 8 (by omega); have h9 := h 9 (by omega); have h10 := h 10 (by omega); have h11 := h 11 (by omega)
  have h12 := h 12 (by omega); have h13 := h 13 (by omega); have h14 := h 14 (by omega); have h15 := h 15 (by omega)
  simp only [texWords, stwWords, List.cons_append, List.nil_append, List.getD_cons_zero, List.getD_cons_succ,
    Nat.add_zero] at *
  simp only [decodeTex, decodeStwGroup, Nat.add_assoc, Nat.reduceAdd, h0, h1, h2, h3, h4, h5, h6, h7, h8, h9, h10, h11,
    h12, h13, h14, h15, hiOf_pair, loOf_pair]

/-- Words that hold a depth block at `k` decode to it. -/
theorem decodeZ_words (z : ZBlock) (w : Nat → Word) (k : Nat) (h : ∀ j, j < 4 → w (k + j) = (zWords z).getD j 0) :
    decodeZ w k = z := by
  have h0 := h 0 (by omega); have h1 := h 1 (by omega); have h2 := h 2 (by omega); have h3 := h 3 (by omega)
  simp only [zWords, List.getD_cons_zero, List.getD_cons_succ, Nat.add_zero] at *
  simp only [decodeZ, h0, h1, h2, h3]

/-- Words that begin with the header and edges of a triangle decode to them. -/
theorem decodeEdges_words (op : BitVec 6) (e : TriEdges) (w : Nat → Word)
    (h : ∀ j, j < 8 → w j = (edgeWords op e).getD j 0) : decodeEdges w = e := by
  have h0 := h 0 (by omega); have h1 := h 1 (by omega); have h2 := h 2 (by omega); have h3 := h 3 (by omega)
  have h4 := h 4 (by omega); have h5 := h 5 (by omega); have h6 := h 6 (by omega); have h7 := h 7 (by omega)
  simp only [edgeWords, List.getD_cons_zero, List.getD_cons_succ] at *
  simp only [decodeEdges, h0, h1, h2, h3, h4, h5, h6, h7]
  simp (disch := omega) only [fieldOf, flagOf, headWord, extract_append_low, extract_append_high, getLsbD_append_low,
    getLsbD_append_high, extract_self, getLsbD_bitOf, Nat.reduceSub]

end Sys2Proof
end

