-- ==== Sys2Proof/Laws/PerInstr.lean ====
section
/-! SUPPORT. Statements about every instruction as syntax, one lemma per constructor (30_encoding.md R120 to R123, R156). -/

namespace Sys2Proof.Laws.Encoding

/-- The encoding of an instruction has the length the length table gives its opcode, its
first word carries that opcode with bits 31 and 30 clear, and the instruction is well formed. -/
def Statement (i : Instr) : Prop :=
  i.wellFormed = true ∧ (encode i).length = cmdLen i.op ∧
    opcodeOf ((encode i).getD 0 0) = i.op ∧ fieldOf ((encode i).getD 0 0) 30 2 = 0

/-- The two bits above the opcode of an encoded first word are clear. -/
theorem headWord_top (op : BitVec 6) (rest : BitVec 24) : fieldOf (headWord op rest) 30 2 = 0 := by
  unfold headWord fieldOf
  rw [extract_append_high _ _ _ _ (by omega), extract_append_high _ _ _ _ (by omega)]
  rfl

theorem nop : Statement .nop :=
  ⟨rfl, rfl, opcodeOf_headWord _ _, headWord_top _ _⟩

theorem reserved01 : Statement .reserved01 :=
  ⟨rfl, rfl, opcodeOf_headWord _ _, headWord_top _ _⟩

theorem reserved02 : Statement .reserved02 :=
  ⟨rfl, rfl, opcodeOf_headWord _ _, headWord_top _ _⟩

theorem reserved03 : Statement .reserved03 :=
  ⟨rfl, rfl, opcodeOf_headWord _ _, headWord_top _ _⟩

theorem reserved04 : Statement .reserved04 :=
  ⟨rfl, rfl, opcodeOf_headWord _ _, headWord_top _ _⟩

theorem reserved05 : Statement .reserved05 :=
  ⟨rfl, rfl, opcodeOf_headWord _ _, headWord_top _ _⟩

theorem reserved06 : Statement .reserved06 :=
  ⟨rfl, rfl, opcodeOf_headWord _ _, headWord_top _ _⟩

theorem reserved07 : Statement .reserved07 :=
  ⟨rfl, rfl, opcodeOf_headWord _ _, headWord_top _ _⟩

theorem triFill (e : TriEdges) : Statement (.triFill e) :=
  ⟨rfl, rfl, opcodeOf_headWord _ _, headWord_top _ _⟩

theorem triFillZ (e : TriEdges) (z : ZBlock) : Statement (.triFillZ e z) :=
  ⟨rfl, rfl, opcodeOf_headWord _ _, headWord_top _ _⟩

theorem triTex (e : TriEdges) (x : TexBlock) : Statement (.triTex e x) :=
  ⟨rfl, rfl, opcodeOf_headWord _ _, headWord_top _ _⟩

theorem triTexZ (e : TriEdges) (x : TexBlock) (z : ZBlock) : Statement (.triTexZ e x z) :=
  ⟨rfl, rfl, opcodeOf_headWord _ _, headWord_top _ _⟩

theorem triShade (e : TriEdges) (c : ShadeBlock) : Statement (.triShade e c) :=
  ⟨rfl, rfl, opcodeOf_headWord _ _, headWord_top _ _⟩

theorem triShadeZ (e : TriEdges) (c : ShadeBlock) (z : ZBlock) : Statement (.triShadeZ e c z) :=
  ⟨rfl, rfl, opcodeOf_headWord _ _, headWord_top _ _⟩

theorem triShadeTex (e : TriEdges) (c : ShadeBlock) (x : TexBlock) : Statement (.triShadeTex e c x) :=
  ⟨rfl, rfl, opcodeOf_headWord _ _, headWord_top _ _⟩

theorem triShadeTexZ (e : TriEdges) (c : ShadeBlock) (x : TexBlock) (z : ZBlock) : Statement (.triShadeTexZ e c x z) :=
  ⟨rfl, rfl, opcodeOf_headWord _ _, headWord_top _ _⟩

theorem reserved10 : Statement .reserved10 :=
  ⟨rfl, rfl, opcodeOf_headWord _ _, headWord_top _ _⟩

theorem reserved11 : Statement .reserved11 :=
  ⟨rfl, rfl, opcodeOf_headWord _ _, headWord_top _ _⟩

theorem reserved12 : Statement .reserved12 :=
  ⟨rfl, rfl, opcodeOf_headWord _ _, headWord_top _ _⟩

theorem reserved13 : Statement .reserved13 :=
  ⟨rfl, rfl, opcodeOf_headWord _ _, headWord_top _ _⟩

theorem reserved14 : Statement .reserved14 :=
  ⟨rfl, rfl, opcodeOf_headWord _ _, headWord_top _ _⟩

theorem reserved15 : Statement .reserved15 :=
  ⟨rfl, rfl, opcodeOf_headWord _ _, headWord_top _ _⟩

theorem reserved16 : Statement .reserved16 :=
  ⟨rfl, rfl, opcodeOf_headWord _ _, headWord_top _ _⟩

theorem reserved17 : Statement .reserved17 :=
  ⟨rfl, rfl, opcodeOf_headWord _ _, headWord_top _ _⟩

theorem reserved18 : Statement .reserved18 :=
  ⟨rfl, rfl, opcodeOf_headWord _ _, headWord_top _ _⟩

theorem reserved19 : Statement .reserved19 :=
  ⟨rfl, rfl, opcodeOf_headWord _ _, headWord_top _ _⟩

theorem reserved1a : Statement .reserved1a :=
  ⟨rfl, rfl, opcodeOf_headWord _ _, headWord_top _ _⟩

theorem reserved1b : Statement .reserved1b :=
  ⟨rfl, rfl, opcodeOf_headWord _ _, headWord_top _ _⟩

theorem reserved1c : Statement .reserved1c :=
  ⟨rfl, rfl, opcodeOf_headWord _ _, headWord_top _ _⟩

theorem reserved1d : Statement .reserved1d :=
  ⟨rfl, rfl, opcodeOf_headWord _ _, headWord_top _ _⟩

theorem reserved1e : Statement .reserved1e :=
  ⟨rfl, rfl, opcodeOf_headWord _ _, headWord_top _ _⟩

theorem reserved1f : Statement .reserved1f :=
  ⟨rfl, rfl, opcodeOf_headWord _ _, headWord_top _ _⟩

theorem reserved20 : Statement .reserved20 :=
  ⟨rfl, rfl, opcodeOf_headWord _ _, headWord_top _ _⟩

theorem reserved21 : Statement .reserved21 :=
  ⟨rfl, rfl, opcodeOf_headWord _ _, headWord_top _ _⟩

theorem reserved22 : Statement .reserved22 :=
  ⟨rfl, rfl, opcodeOf_headWord _ _, headWord_top _ _⟩

theorem reserved23 : Statement .reserved23 :=
  ⟨rfl, rfl, opcodeOf_headWord _ _, headWord_top _ _⟩

theorem textureRectangle (o : TexRectOps) : Statement (.textureRectangle o) :=
  ⟨rfl, rfl, opcodeOf_headWord _ _, headWord_top _ _⟩

theorem textureRectangleFlip (o : TexRectOps) : Statement (.textureRectangleFlip o) :=
  ⟨rfl, rfl, opcodeOf_headWord _ _, headWord_top _ _⟩

theorem syncLoad : Statement .syncLoad :=
  ⟨rfl, rfl, opcodeOf_headWord _ _, headWord_top _ _⟩

theorem syncPipe : Statement .syncPipe :=
  ⟨rfl, rfl, opcodeOf_headWord _ _, headWord_top _ _⟩

theorem syncTile : Statement .syncTile :=
  ⟨rfl, rfl, opcodeOf_headWord _ _, headWord_top _ _⟩

theorem syncFull : Statement .syncFull :=
  ⟨rfl, rfl, opcodeOf_headWord _ _, headWord_top _ _⟩

theorem setKeyGb (o : KeyGbOps) : Statement (.setKeyGb o) :=
  ⟨rfl, rfl, opcodeOf_headWord _ _, headWord_top _ _⟩

theorem setKeyR (o : KeyROps) : Statement (.setKeyR o) :=
  ⟨rfl, rfl, opcodeOf_headWord _ _, headWord_top _ _⟩

theorem setConvert (o : ConvertOps) : Statement (.setConvert o) :=
  ⟨rfl, rfl, opcodeOf_headWord _ _, headWord_top _ _⟩

theorem setScissor (o : ScissorOps) : Statement (.setScissor o) :=
  ⟨rfl, rfl, opcodeOf_headWord _ _, headWord_top _ _⟩

theorem setPrimDepth (o : PrimDepthOps) : Statement (.setPrimDepth o) :=
  ⟨rfl, rfl, opcodeOf_headWord _ _, headWord_top _ _⟩

theorem setOtherModes (m : OtherModes) : Statement (.setOtherModes m) :=
  ⟨rfl, rfl, opcodeOf_headWord _ _, headWord_top _ _⟩

theorem loadTlut (o : TileSizeOps) : Statement (.loadTlut o) :=
  ⟨rfl, rfl, opcodeOf_headWord _ _, headWord_top _ _⟩

theorem reserved31 : Statement .reserved31 :=
  ⟨rfl, rfl, opcodeOf_headWord _ _, headWord_top _ _⟩

theorem setTileSize (o : TileSizeOps) : Statement (.setTileSize o) :=
  ⟨rfl, rfl, opcodeOf_headWord _ _, headWord_top _ _⟩

theorem loadBlock (o : TileSizeOps) : Statement (.loadBlock o) :=
  ⟨rfl, rfl, opcodeOf_headWord _ _, headWord_top _ _⟩

theorem loadTile (o : TileSizeOps) : Statement (.loadTile o) :=
  ⟨rfl, rfl, opcodeOf_headWord _ _, headWord_top _ _⟩

theorem setTile (o : TileOps) : Statement (.setTile o) :=
  ⟨rfl, rfl, opcodeOf_headWord _ _, headWord_top _ _⟩

theorem fillRectangle (o : RectOps) : Statement (.fillRectangle o) :=
  ⟨rfl, rfl, opcodeOf_headWord _ _, headWord_top _ _⟩

theorem setFillColor (color : BitVec 32) : Statement (.setFillColor color) :=
  ⟨rfl, rfl, opcodeOf_headWord _ _, headWord_top _ _⟩

theorem setFogColor (color : Rgba (BitVec 8)) : Statement (.setFogColor color) :=
  ⟨rfl, rfl, opcodeOf_headWord _ _, headWord_top _ _⟩

theorem setBlendColor (color : Rgba (BitVec 8)) : Statement (.setBlendColor color) :=
  ⟨rfl, rfl, opcodeOf_headWord _ _, headWord_top _ _⟩

theorem setPrimColor (o : PrimColorOps) : Statement (.setPrimColor o) :=
  ⟨rfl, rfl, opcodeOf_headWord _ _, headWord_top _ _⟩

theorem setEnvColor (color : Rgba (BitVec 8)) : Statement (.setEnvColor color) :=
  ⟨rfl, rfl, opcodeOf_headWord _ _, headWord_top _ _⟩

theorem setCombine (c : Combine) : Statement (.setCombine c) :=
  ⟨rfl, rfl, opcodeOf_headWord _ _, headWord_top _ _⟩

theorem setTextureImage (o : ImageOps) : Statement (.setTextureImage o) :=
  ⟨rfl, rfl, opcodeOf_headWord _ _, headWord_top _ _⟩

theorem setZImage (address : BitVec 24) : Statement (.setZImage address) :=
  ⟨rfl, rfl, opcodeOf_headWord _ _, headWord_top _ _⟩

theorem setColorImage (o : ImageOps) : Statement (.setColorImage o) :=
  ⟨rfl, rfl, opcodeOf_headWord _ _, headWord_top _ _⟩

end Sys2Proof.Laws.Encoding
end

