-- ==== Sys2Proof/Laws/Step.lean ====
section
/-! SUPPORT. What one step can do, said once (40_command_processor.md R165 to R172). -/

namespace Sys2Proof.Machine

theorem wholeHead_iff {ws : List Word} :
    wholeHead ws = true ↔ ws ≠ [] ∧ cmdLen (opcodeOf (ws.getD 0 0)) ≤ ws.length := by
  simp [wholeHead]

/-- A whole command at the head of the queue is decoded and executed. -/
theorem dispatchHead_whole {s : State} (h : wholeHead (pending s) = true) :
    ∃ i, decodeWords (pending s) = .ok (i, (pending s).drop (cmdLen i.op)) ∧ i.op = opcodeOf ((pending s).getD 0 0) ∧
      dispatchHead s = advanceOutcome (cmdLen i.op) (exec i s) := by
  obtain ⟨i, hi, ho⟩ := decodeWords_whole (wholeHead_iff.1 h).2
  exact ⟨i, hi, ho, by simp only [dispatchHead, h, if_true, hi]⟩

/-- When no whole command is at the head of the queue the call ends. -/
theorem dispatchHead_end {s : State} (h : wholeHead (pending s) = false) : dispatchHead s = .next (finishCall s) := by
  simp [dispatchHead, h]

/-- Everything a step can do: nothing, between calls; the end of the call, when the core has crashed or no whole command is left;
or one command, executed on the refilled queue, and the queue moved past it. -/
theorem step_cases {s t : State} (h : step s = .next t) :
    (s.call = none ∧ t = s) ∨
      ∃ c, s.call = some c ∧
        ((s.crashed = true ∧ t = finishCall s) ∨
          (s.crashed = false ∧ wholeHead (pending (refill s c)) = false ∧ t = finishCall (refill s c)) ∨
          (s.crashed = false ∧ ∃ i u, wholeHead (pending (refill s c)) = true ∧
            decodeWords (pending (refill s c)) = .ok (i, (pending (refill s c)).drop (cmdLen i.op)) ∧
            exec i (refill s c) = .next u ∧ t = advance u (cmdLen i.op))) := by
  unfold step at h
  cases hc : s.call with
  | none =>
    rw [hc] at h
    cases h
    exact Or.inl ⟨rfl, rfl⟩
  | some c =>
    rw [hc] at h
    refine Or.inr ⟨c, rfl, ?_⟩
    simp only [stepCall] at h
    split at h
    · rename_i hcr
      cases h
      exact Or.inl ⟨hcr, rfl⟩
    · rename_i hcr
      have hcr : s.crashed = false := by simpa using hcr
      cases hw : wholeHead (pending (refill s c)) with
      | false =>
        rw [dispatchHead_end hw] at h
        cases h
        exact Or.inr (Or.inl ⟨hcr, rfl, rfl⟩)
      | true =>
        obtain ⟨i, hi, -, hd⟩ := dispatchHead_whole hw
        rw [hd] at h
        cases he : exec i (refill s c) with
        | next u =>
          rw [he] at h
          cases h
          exact Or.inr (Or.inr ⟨hcr, i, u, rfl, hi, he, rfl⟩)
        | fault r => rw [he] at h; cases h
        | refused r => rw [he] at h; cases h

/-- What `refill` does to the state: the queue, `q_cur` and the call, nothing else. -/
theorem refill_frame (s : State) (c : Call) :
    refill s c = { s with cmdq := (refill s c).cmdq, qCur := (refill s c).qCur, call := (refill s c).call } := by
  unfold refill
  dsimp only
  repeat' split
  all_goals rfl

end Sys2Proof.Machine
end

