-- ==== Sys2Proof/Laws/Walk.lean ====
section
/-! SUPPORT. The edge walk keeps the span buffer canonical and within 1024 rows (46_edge_walker.md R389), and the coverage buffer
canonical. -/

namespace Sys2Proof.Machine

theorem spansWf_closeRow (p : WalkPlan) (j : Int) {w : Walk} (h : Cells.wf Span.zero 1024 w.spans = true) :
    Cells.wf Span.zero 1024 (closeRow p j w).spans = true := by
  unfold closeRow
  dsimp only
  split
  · exact Cells.wf_write h _ _ (by omega)
  · exact h

theorem spans_accumulate (p : WalkPlan) (w : Walk) (l r : Int) : (accumulate p w l r).spans = w.spans := by
  unfold accumulate
  split <;> rfl

theorem spansWf_stepInside (p : WalkPlan) (k : Int) {w : Walk} (h : Cells.wf Span.zero 1024 w.spans = true) :
    Cells.wf Span.zero 1024 (stepInside p k w).spans = true := by
  unfold stepInside
  dsimp only
  repeat' split
  all_goals first
    | exact spansWf_closeRow p _ (by simpa only [spans_accumulate, resetRow] using h)
    | simpa only [spans_accumulate, resetRow] using h

theorem spansWf_walkStep (p : WalkPlan) (k : Int) {w : Walk} (h : Cells.wf Span.zero 1024 w.spans = true) :
    Cells.wf Span.zero 1024 (walkStep p w k).spans = true := by
  unfold walkStep
  dsimp only
  have h1 : Cells.wf Span.zero 1024
      (if k = p.ym then { w with xleft := p.lowLeft, leftInc := p.lowLeftInc } else w).spans = true := by
    split <;> exact h
  split
  · split
    · exact spansWf_stepInside p k h1
    · exact h1
  · split
    · exact spansWf_stepInside p k h1
    · exact h1

/-- The span buffer a walk leaves is canonical and has rows 0 to 1023 only. -/
theorem spansWf_walkSpans (s : State) (q : Primitive) : Cells.wf Span.zero 1024 (walkSpans s q) = true := by
  unfold walkSpans
  dsimp only
  exact foldl_keeps (fun w : Walk => Cells.wf Span.zero 1024 w.spans = true) _ _ _ rfl
    (fun w k _ h => spansWf_walkStep _ k h)

theorem cvgLast_lt (flip : Bool) (row : Span) : cvgLast flip row < 4096 := by
  unfold cvgLast
  split
  · exact row.lx.isLt
  · exact row.rx.isLt

theorem cvgWf_computeCvg (flip : Bool) (row : Span) {buf : Cells Byte} (h : Cells.wf (0 : Byte) 4096 buf = true) :
    Cells.wf (0 : Byte) 4096 (computeCvg flip row buf) = true := by
  unfold computeCvg
  dsimp only
  refine foldl_keeps (fun b : Cells Byte => Cells.wf (0 : Byte) 4096 b = true) _ _ _ h ?_
  intro b k hk hb
  obtain ⟨j, hj, rfl⟩ := List.mem_map.1 hk
  have := List.mem_range.1 hj
  have := cvgLast_lt flip row
  exact Cells.wf_write hb _ _ (by omega)

theorem cvgWf_renderRow (s : State) (two : Bool) (e : PrimEnv) (pipe : Pipe) (i : Int)
    (h : Cells.wf (0 : Byte) 4096 pipe.cvgbuf = true) : Cells.wf (0 : Byte) 4096 (renderRow s two e pipe i).cvgbuf = true := by
  unfold renderRow
  dsimp only
  split
  · exact foldl_keeps (fun q : Pipe => Cells.wf (0 : Byte) 4096 q.cvgbuf = true) _ _ _ (cvgWf_computeCvg _ _ h)
      (fun _ _ _ hq => hq)
  · exact h

theorem cvgWf_renderSpans {s : State} {e : PrimEnv} {ys ye : Int} {pipe pipe' : Pipe}
    (h : Cells.wf (0 : Byte) 4096 pipe.cvgbuf = true) (hr : renderSpans s e ys ye pipe = some pipe') :
    Cells.wf (0 : Byte) 4096 pipe'.cvgbuf = true := by
  unfold renderSpans at hr
  split at hr
  · cases hr
    exact foldl_keeps (fun q : Pipe => Cells.wf (0 : Byte) 4096 q.cvgbuf = true) _ _ _ h
      (fun q i _ hq => cvgWf_renderRow _ _ _ q i hq)
  · cases hr
    exact foldl_keeps (fun q : Pipe => Cells.wf (0 : Byte) 4096 q.cvgbuf = true) _ _ _ h
      (fun q i _ hq => cvgWf_renderRow _ _ _ q i hq)
  · unfold renderCopy at hr
    split at hr
    · cases hr
    · split at hr
      · split at hr <;> cases hr
        exact h
      · cases hr
        refine foldl_keeps (fun q : Pipe => Cells.wf (0 : Byte) 4096 q.cvgbuf = true) _ _ _ h ?_
        intro q i _ hq
        unfold copyRow
        exact foldl_keeps (fun q : Pipe => Cells.wf (0 : Byte) 4096 q.cvgbuf = true) _ _ _ hq (fun _ _ _ hq => hq)
  · unfold renderFill at hr
    split at hr <;> cases hr
    exact h

/-- An edge walk keeps the transient buffers canonical. -/
theorem scratchWf_edgeWalk {s : State} (h : scratchWf s = true) (ew : List Word) : scratchWf (edgeWalk s ew) = true := by
  simp only [scratchWf, Bool.and_eq_true] at h ⊢
  cases hr : renderBlock s ew with
  | none =>
    rw [edgeWalk_none hr]
    exact ⟨spansWf_walkSpans s (decodeEw ew), h.2⟩
  | some pipe =>
    rw [edgeWalk_some hr]
    unfold renderBlock at hr
    exact ⟨spansWf_walkSpans s (decodeEw ew), cvgWf_renderSpans (pipe := pipeStart (afterWalk s ew)) h.2 hr⟩

end Sys2Proof.Machine
end

