-- ==== Sys2Proof/Tests/Slice0.lean ====
section
/-! SUPPORT. Tests of one step or one operation each, with values from 95_test_vectors.md or worked from the rules, and a witness
for the hypotheses of every statement. -/

namespace Sys2Proof.Tests

-- One theorem after another: checked side by side, so many kernel evaluations each hold a thread of their own.
set_option Elab.async false

open Sys2Proof.Machine

/-! ## Helpers -/

/-- One command: its words decoded and executed on `s`. -/
def run (ws : List Word) (s : State) : Option State :=
  match decodeWords ws with
  | .ok (i, _) =>
    match exec i s with
    | .next t => some t
    | .fault _ => none
    | .refused _ => none
  | .error _ => none

/-- What the decoder reads, the reason of a refusal forgotten. -/
def read (ws : List Word) : Option (Instr × List Word) := (decodeWords ws).toOption

/-- Several commands of two words each, one after another. -/
def runAll (ws : List (List Word)) (s : State) : Option State :=
  match ws with
  | [] => some s
  | w :: rest =>
    match run w s with
    | some t => runAll rest t
    | none => none

/-- The reset state with a 4 KiB main memory: the tests keep their images at low addresses. -/
def small : State := State.powerOn { Config.default with memBits := 12 }

/-- 16-bit RGBA image of width 8 at address 0x100, scissor (0,0)-(320.0,240.0). -/
def canvas : State :=
  { small with fbSize := 2, fbWidth := 8, fbAddress := 0x100, zbAddress := 0x800, clipXl := 0x500, clipYl := 0x3C0 }

/-- `canvas` in fill mode with the fill colour of P1. -/
def filling : State := { canvas with mode := { OtherModes.zero with cycleType := .fill }, fillColor := 0xF801F801 }

/-- `canvas` in 1-cycle mode with no dither, passing the primitive colour of P5. -/
def primColoured : State :=
  { canvas with mode := { OtherModes.zero with rgbDitherSel := 3, alphaDitherSel := 3 },
                combine := { c0 := CombineSet.zero,
                             c1 := { subARgb := 8, subBRgb := 8, mulRgb := 16, addRgb := 3, subAA := 7, subBA := 7, mulA := 7,
                                     addA := 3 } },
                primColor := { r := 0xFF, g := 0x80, b := 0, a := 0xFF } }

/-- Eight halfwords stored in main memory from address 0x200. -/
def withHalves (s : State) (hs : List Half) : State :=
  { s with ram := (List.range hs.length).foldl (fun ram k => wr16 s.cfg ram (0x100 + k : Nat) (hs.getD k 0)) s.ram }

/-- The texture image of P4 and V-LD-2, 16-bit, with tile 0 as 16-bit RGBA of `line` 64-bit words a row. -/
def textured (width : BitVec 11) (line : BitVec 9) : State :=
  Machine.setTile
    { withHalves small [0xA000, 0xA001, 0xA002, 0xA003, 0xB000, 0xB001, 0xB002, 0xB003] with
      tiSize := 2, tiWidth := width, tiAddress := 0x200 }
    0 { Tile.zero with size := 2, line := line }

/-- The halfwords of texture memory from index `i` on. -/
def halves (t : State) (i n : Nat) : List Half := (List.range n).map fun k => tmem16 t.tmem ((i + k : Nat) : Int)

/-- The halfwords of main memory from index `i` on. -/
def ramHalves (t : State) (i n : Nat) : List Half := (List.range n).map fun k => rd16 t.cfg t.ram ((i + k : Nat) : Int)

/-- The edges of V-ENC-14. -/
def edges14 : TriEdges :=
  { flip := true, level := 0, tile := 0, yl := 0x20, ym := 0x20, yh := 0, xl := 0x00080000, dxldy := 0, xh := 0, dxhdy := 0,
    xm := 0, dxmdy := 0x00010000 }

/-- The words of V-ENC-14 with another opcode in the first word. -/
def edgeWords14 (w0 : Word) : List Word := [w0, 0x00200000, 0x00080000, 0, 0, 0, 0, 0x00010000]

/-- A shade block with red 255.0 everywhere, green and blue 0 and alpha 255.0. -/
def redShade : List Word := [0x00FF0000, 0x000000FF] ++ List.replicate 14 0

/-! ## Well-formedness -/

/-- Every operand value of every command is accepted (42_mode_commands.md R220 and the like): no term is ill formed. -/
theorem test_wellFormed_all (i : Instr) : i.wellFormed = true := by cases i <;> rfl

/-- The operands at the top of their ranges are well formed too. -/
theorem test_wellFormed_smoke :
    ([.fillRectangle { xl := 0xFFF, yl := 0xFFF, xh := 0xFFF, yh := 0xFFF },
      .setTile { tile := 7, format := 7, size := 3, line := 0x1FF, tmem := 0x1FF, palette := 15, ct := true, mt := true,
                 maskT := 15, shiftT := 15, cs := true, ms := true, maskS := 15, shiftS := 15 },
      .setColorImage { format := 7, size := 0, width := 0x3FF, address := 0xFFFFFF }] : List Instr).all Instr.wellFormed = true := by
  decide

/-! ## Decoding: words written out from the formats of 30_encoding.md -/

/-- V-ENC-3 and V-ENC-10: SET_PRIM_DEPTH, SET_SCISSOR. -/
theorem test_decode_scissor_depth :
    read [0x2E000000, 0x12340008] =
      some (.setPrimDepth { z := 0x1234, dz := 8 }, []) ∧
    read [0x2D000000, 0x030003C0] =
      some (.setScissor { xh := 0, yh := 0, field := true, odd := true, xl := 0, yl := 0x3C0 }, []) := by decide +kernel

/-- V-ENC-5: SET_TILE. -/
theorem test_decode_tile :
    read [0x35100800, 0x00010040] =
      some (.setTile { tile := 0, format := 0, size := 2, line := 4, tmem := 0, palette := 0, ct := false,
                       mt := false, maskT := 4, shiftT := 0, cs := false, ms := false, maskS := 4, shiftS := 0 }, []) := by decide +kernel

/-- V-ENC-8: SET_OTHER_MODES. -/
theorem test_decode_modes :
    read [0xEF182C00, 0x00552048] =
      some (.setOtherModes
        { OtherModes.zero with
          cycleType := .two, perspTexEn := true, sampleType := true, biLerp0 := true, biLerp1 := true, blendM2a0 := 1,
          blendM2a1 := 1, blendM2b0 := 1, blendM2b1 := 1, alphaCvgSelect := true, imageReadEn := true,
          antialiasEn := true }, []) := by decide +kernel

/-- V-ENC-9: SET_COMBINE. -/
theorem test_decode_combine :
    read [0xFC121824, 0xFF33FFFF] =
      some (.setCombine
        { c0 := { subARgb := 1, subBRgb := 15, mulRgb := 4, addRgb := 7, subAA := 1, subBA := 7, mulA := 4, addA := 7 },
          c1 := { subARgb := 1, subBRgb := 15, mulRgb := 4, addRgb := 7, subAA := 1, subBA := 7, mulA := 4, addA := 7 } },
        []) := by decide +kernel

/-- V-ENC-11: SET_PRIM_COLOR. -/
theorem test_decode_primColor :
    read [0x3A000A80, 0xFF8040C0] =
      some (.setPrimColor { minLevel := 0x0A, lodFrac := 0x80, color := { r := 0xFF, g := 0x80, b := 0x40, a := 0xC0 } }, []) := by
  decide +kernel

/-- SET_KEY_GB, SET_KEY_R (R139, R140). -/
theorem test_decode_keys :
    read [0x2A123456, 0x789ABCDE] =
      some (.setKeyGb { widthG := 0x123, widthB := 0x456, centerG := 0x78, scaleG := 0x9A, centerB := 0xBC, scaleB := 0xDE }, []) ∧
    read [0x2B000000, 0x0123ABCD] =
      some (.setKeyR { widthR := 0x123, centerR := 0xAB, scaleR := 0xCD }, []) := by
  decide +kernel

/-- The colour and image commands (R143, R145, R146). -/
theorem test_decode_colours :
    read [0x37000000, 0xF800F800] =
      some (.setFillColor 0xF800F800, []) ∧
    read [0x38000000, 0x10203040] =
      some (.setFogColor { r := 0x10, g := 0x20, b := 0x30, a := 0x40 }, []) ∧
    read [0x39000000, 0x00000080] =
      some (.setBlendColor { r := 0, g := 0, b := 0, a := 0x80 }, []) ∧
    read [0x3B000000, 0x01020304] =
      some (.setEnvColor { r := 1, g := 2, b := 3, a := 4 }, []) ∧
    read [0x3D100003, 0x00200000] =
      some (.setTextureImage { format := 0, size := 2, width := 3, address := 0x200000 }, []) ∧
    read [0x3E000000, 0xFF180000] =
      some (.setZImage 0x180000, []) := by decide +kernel

/-- The loads and SET_TILE_SIZE (R148). -/
theorem test_decode_loads :
    read [0x34000000, 0x0000C004] =
      some (.loadTile { sl := 0, tl := 0, tile := 0, sh := 0x00C, th := 0x004 }, []) ∧
    read [0x30000000, 0x0700C000] =
      some (.loadTlut { sl := 0, tl := 0, tile := 7, sh := 0x00C, th := 0 }, []) ∧
    read [0x32004004, 0x07000000] =
      some (.setTileSize { sl := 4, tl := 4, tile := 7, sh := 0, th := 0 }, []) := by
  decide +kernel

/-- TEXTURE_RECTANGLE_FLIP (R135): four words, and the rest is left. -/
theorem test_decode_flip :
    read [0x25040040, 0x02003005, 0x00100020, 0x04000401, 0x29000000] =
      some (.textureRectangleFlip { rect := { xl := 0x040, yl := 0x040, xh := 0x003, yh := 0x005 }, tile := 2, s := 0x10,
                                    t := 0x20, dsdx := 0x400, dtdy := 0x401 }, [0x29000000]) := by decide +kernel

/-- A TRI_SHADE_TEX_Z with every word different: each block is read from its own place (R150 to R153). -/
theorem test_decode_longest :
    (match decodeWords (0x0F8A0001 :: (List.range 43).map fun k => BitVec.ofNat 32 (0x01000100 + k)) with
      | .ok (.triShadeTexZ e c x z, rest) =>
        decide (e.flip = true ∧ e.level = 1 ∧ e.tile = 2 ∧ e.yl = 1 ∧ e.dxmdy = 0x01000106 ∧ c.base.r = 0x01000100 ∧
          c.base.g = 0x0107010B ∧ c.dy.a = 0x01120116 ∧ x.base.s = 0x01000100 ∧ x.base.t = 0x0117011B ∧
          x.dy.t = 0x0121_0125 ∧ z.z = 0x01000127 ∧ z.dzdy = 0x0100012A ∧ rest = [])
      | _ => false) = true := by decide +kernel

/-- A sequence that ends inside its command is refused by name. -/
theorem test_decode_truncated : decodeWords (edgeWords14 0x09800020) = .error .truncated := rfl

/-- The bits of an opcode-table row, numbered from the least significant bit of the first word. -/
theorem test_tableWord :
    decodeTableWord 64 (0x12340008 * 2 ^ 32 + 0x2E000000) = some (.setPrimDepth { z := 0x1234, dz := 8 }) ∧
    decodeTableWord 256 0x0C000000 = some (.triShade { edges14 with flip := false, yl := 0, ym := 0, xl := 0, dxmdy := 0 } noShade) := by
  decide +kernel

/-- The encoder writes unnamed bits 0: `FF10013F 00100000` is encoded again as `3F10013F 00100000` (V-ENC, R156). -/
theorem test_encode_canonical :
    encode (.setColorImage { format := 0, size := 2, width := 0x13F, address := 0x100000 }) = [0x3F10013F, 0x00100000] := by
  decide +kernel

/-! ## The command processor -/

/-- V-CP-1 and V-CP-2: an empty range does nothing; the low three bits of the cursors are ignored. -/
theorem test_run_two_syncs :
    (match processCommandList (hostSetRange { small with ram := wr32 small.cfg (wr32 small.cfg small.ram 0 0x29000000) 2 0x29000000 }
        4 0x16) with
      | .next t => decide (t.syncEvents = 2 ∧ t.current = 0x16 ∧ t.cmdq = [])
      | _ => false) = true := by decide +kernel

/-- V-CP-3: a list that runs off the end of memory is NOPs. -/
theorem test_run_off_memory :
    (match processCommandList (hostSetRange { small with ram := wr32 small.cfg small.ram 0x3FE 0x29000000 } 0xFF8 0x1010) with
      | .next t => decide (t.syncEvents = 1 ∧ t.current = 0x1010)
      | _ => false) = true := by decide +kernel

/-- V-CP-4: the alternate source wraps. -/
theorem test_run_xbus :
    (match processCommandList (hostSetRange { small with xbus := true, xmem := [(0, 0x37000000), (1, 0xAAAAAAAA), (0x3FE, 0x29000000)] }
        0xFF8 0x1008) with
      | .next t => decide (t.syncEvents = 1 ∧ t.fillColor = 0xAAAAAAAA)
      | _ => false) = true := by decide +kernel

/-- P2: a list that ends inside a triangle stalls with four words in the queue. -/
theorem test_stall :
    (match processCommandList (hostSetRange { small with xbus := true, xmem := [(0, 0x08800020), (1, 0x00200000), (2, 0x00080000)] }
        0 0x10) with
      | .next t => decide (t.cmdq = [0x08800020, 0x00200000, 0x00080000, 0] ∧ t.qCur = 0 ∧ t.current = 0x10 ∧ t.call = none)
      | _ => false) = true := by decide +kernel

/-- V-CP-6: while CRASHED nothing is dispatched. -/
theorem test_crashed_drops :
    (match processCommandList (hostSetRange { small with crashed := true, xbus := true, xmem := [(0, 0x37000000), (1, 0xFFFFFFFF),
        (2, 0x29000000)] } 0 0x10) with
      | .next t => decide (t.fillColor = 0 ∧ t.syncEvents = 0 ∧ t.cmdq = [] ∧ t.current = 0x10 ∧ t.crashed = true)
      | _ => false) = true := by decide +kernel

/-- V-RS-1, P3: HostReset clears the latch and a residue and keeps the rest. -/
theorem test_hostReset :
    hostReset { filling with crashed := true, cmdq := [0x08800020, 0] } =
      { filling with clipXl := 0, clipYl := 0, mode := OtherModes.zero } := by decide +kernel

/-- The word placed for the next step is fetched and run, from reset (log 2). -/
theorem test_withFetchWord :
    (match step (State.reset.withFetchWord 64 (0xF800F800 * 2 ^ 32 + 0x37000000)) with
      | .next t => decide (t.fillColor = 0xF800F800 ∧ t.qCur = 2)
      | _ => false) = true := by decide +kernel

/-! ## The commands that write registers -/

/-- NOP, V-ENC-6 and V-CP-7: no state changes. -/
theorem test_noOps :
    run [0, 0] filling = some filling ∧ run [0x13ABCDEF, 0x12345678] filling = some filling ∧
      run [0x26000000, 0] filling = some filling ∧ run [0x27000000, 0] filling = some filling ∧
      run [0x28000000, 0] filling = some filling := by decide +kernel

/-- The sync vectors: `29FFFFFF FFFFFFFF` emits once. -/
theorem test_syncFull : run [0x29FFFFFF, 0xFFFFFFFF] { small with syncEvents := 6 } = some { small with syncEvents := 7 } := by
  decide +kernel

/-- V-MD-1, V-MD-2. -/
theorem test_setOtherModes :
    run [0x2F300000, 0] primColoured = some { primColoured with mode := { OtherModes.zero with cycleType := .fill } } ∧
      run [0x2F0000F0, 0] filling =
        some { filling with mode := { OtherModes.zero with rgbDitherSel := 3, alphaDitherSel := 3 } } := by decide +kernel

/-- V-MD-8. -/
theorem test_setCombine :
    (run [0x3C887F10, 0x88FDF6FB] small).map (·.combine.c1) = some primColoured.combine.c1 ∧
      (run [0x3C887F10, 0x88FDF6FB] small).map (·.combine.c0) = some primColoured.combine.c1 := by decide +kernel

/-- V-MD-3. -/
theorem test_setScissor :
    run [0x2D000000, 0x005003C0] { small with clipXh := 9, clipYh := 9, scfield := true, sckeepodd := true } =
      some { small with clipXl := 0x500, clipYl := 0x3C0 } := by decide +kernel

/-- R231: `w1[31]` is dropped. -/
theorem test_setPrimDepth :
    run [0x2E000000, 0xFFFFFFFF] small = some { small with primZ := 0x7FFF0000, primDz := 0xFFFF } := by decide +kernel

/-- V-MD-4: the red registers stay. -/
theorem test_setKeyGb :
    run [0x2A123456, 0x789ABCDE] { small with keyWidth := Rgb.same 1, keyCenter := Rgb.same 2, keyScale := Rgb.same 3 } =
      some { small with keyWidth := { r := 1, g := 0x123, b := 0x456 }, keyCenter := { r := 2, g := 0x78, b := 0xBC },
                        keyScale := { r := 3, g := 0x9A, b := 0xDE } } := by decide +kernel

/-- V-MD-5: the green and blue registers stay. -/
theorem test_setKeyR :
    run [0x2B000000, 0x0123ABCD] { small with keyWidth := Rgb.same 1, keyCenter := Rgb.same 2, keyScale := Rgb.same 3 } =
      some { small with keyWidth := { r := 0x123, g := 1, b := 1 }, keyCenter := { r := 0xAB, g := 2, b := 2 },
                        keyScale := { r := 0xCD, g := 3, b := 3 } } := by decide +kernel

/-- V-ENC-7. -/
theorem test_setConvert :
    run [0x2C15FD5D, 0x3B78E42A] small =
      some { small with k0 := 0x0AF, k1 := 0x1D5, k2 := 0x1A7, k3 := 0x0DE, k4 := 0x072, k5 := 0x02A } := by decide +kernel

/-- V-MD-6, V-MD-7, R244. -/
theorem test_setColours :
    runAll [[0x37000000, 0xF800F800], [0x38000000, 0x10203040], [0x39000000, 0x00000080], [0x3B000000, 0x01020304],
        [0x3A000A80, 0xFF8040C0]] small =
      some { small with fillColor := 0xF800F800, fogColor := { r := 0x10, g := 0x20, b := 0x30, a := 0x40 },
                        blendColor := { r := 0, g := 0, b := 0, a := 0x80 }, envColor := { r := 1, g := 2, b := 3, a := 4 },
                        primColor := { r := 0xFF, g := 0x80, b := 0x40, a := 0xC0 }, minLevel := 0x0A,
                        primLodFrac := 0x80 } := by decide +kernel

/-- V-IM-1, V-IM-3, V-IM-4. -/
theorem test_setImages :
    runAll [[0x3F10013F, 0x00100000], [0x3D100003, 0x00200000], [0x3E000000, 0xFF180000]] small =
      some { small with fbSize := 2, fbWidth := 320, fbAddress := 0x100000, tiSize := 2, tiWidth := 4, tiAddress := 0x200000,
                        zbAddress := 0x180000 } := by decide +kernel

/-- The widest image: the 10-bit width 0x3FF is held as 1024. -/
theorem test_setColorImage_widest : (run [0x3F0003FF, 0] small).map (·.fbWidth.toNat) = some 1024 := by decide +kernel

/-- V-IM-5: the extent of the tile stays, and clamping is forced on with mask 0. -/
theorem test_setTile :
    (run [0x35100200, 0] (Machine.setTile small 0 { Tile.zero with sl := 5, th := 9, maskS := 3 })).map (fun t => getTile t 0) =
      some { Tile.zero with size := 2, line := 1, sl := 5, th := 9 } ∧
    (run [0x35100200, 0] small).map (fun t => (clampEnS (getTile t 0), clampEnT (getTile t 0))) = some (true, true) := by
  decide +kernel

/-- V-IM-7: the clamp differences are taken modulo 1024. -/
theorem test_setTileSize :
    (run [0x32004004, 0x07000000] small).map (fun t => (clampDiffS (getTile t 7), clampDiffT (getTile t 7), (getTile t 0).sl)) =
      some (0x3ff, 0x3ff, 0) := by decide +kernel

/-! ## The loads -/

/-- P4 (V-LD-1). -/
theorem test_loadTile :
    (run [0x34000000, 0x0000C004] (textured 4 1)).map (fun t => (halves t 0 9, (getTile t 0).sh, (getTile t 0).th)) =
      some ([0xA000, 0xA001, 0xA002, 0xA003, 0xB002, 0xB003, 0xB000, 0xB001, 0], 0x00C, 0x004) := by decide +kernel

/-- V-LD-4: 32-bit RGBA texels are split between the two halves of texture memory. -/
theorem test_loadTile_32bit :
    (run [0x34000000, 0x00004004]
      (Machine.setTile
        { withHalves small [0x1122, 0x3344, 0x5566, 0x7788, 0x99AA, 0xBBCC, 0xDDEE, 0xFF00] with
          tiSize := 3, tiWidth := 2, tiAddress := 0x200 } 0 { Tile.zero with size := 3, line := 1 })).map
        (fun t => (halves t 0 2, halves t 0x400 2, halves t 6 2, halves t 0x406 2)) =
      some ([0x1122, 0x5566], [0x3344, 0x7788], [0x99AA, 0xDDEE], [0xBBCC, 0xFF00]) := by decide +kernel

/-- V-LD-2, with `line` 0 and with `line` 1. -/
theorem test_loadBlock :
    (run [0x33000000, 0x00007800] (textured 1 0)).map (fun t => (halves t 0 8, (getTile t 0).sh, (getTile t 0).th)) =
      some ([0xA000, 0xA001, 0xA002, 0xA003, 0xB002, 0xB003, 0xB000, 0xB001], 7, 0x800) ∧
    (run [0x33000000, 0x00007800] (textured 1 1)).map (fun t => (halves t 4 4, halves t 8 4)) =
      some ([0, 0, 0, 0], [0xB002, 0xB003, 0xB000, 0xB001]) := by decide +kernel

/-- V-LD-3: each palette entry four times, in the upper half of texture memory. -/
theorem test_loadTlut :
    (run [0x30000000, 0x0700C000]
      (Machine.setTile { withHalves small [0xF801, 0x07C1, 0x003F, 0xFFFF] with tiSize := 2, tiWidth := 1, tiAddress := 0x200 } 7
        { Tile.zero with tmem := 256 })).map (fun t => (halves t 0x3FF 6, halves t 0x408 9)) =
      some ([0, 0xF801, 0xF801, 0xF801, 0xF801, 0x07C1], [0x003F, 0x003F, 0x003F, 0x003F, 0xFFFF, 0xFFFF, 0xFFFF, 0xFFFF, 0]) := by
  decide +kernel

/-- V-LD-5: a LOAD_TLUT of two rows writes the extent and loads nothing; the latch only under `LOAD_LOCKUP`. -/
theorem test_loadTlut_rows :
    (run [0x30000000, 0x0700C004] (textured 4 1)).map (fun t => (t.tmem, t.crashed, (getTile t 7).sh)) = some ([], false, 0x00C) ∧
    (run [0x30000000, 0x0700C004] { textured 4 1 with cfg := { small.cfg with loadLockup := true } }).map
      (fun t => (t.tmem, t.crashed)) = some ([], true) := by decide +kernel

/-! ## The drawing commands -/

/-- P1: the 4 x 4 rectangle, here at width 8; four pixels a row and nothing beside them. -/
theorem test_fillRectangle :
    (run [0x3600C00C, 0] filling).map (fun t => (ramHalves t 0x80 5, ramHalves t 0x98 5, ramHalves t 0xA0 4, t.ram.mem.length)) =
      some ([0xF801, 0xF801, 0xF801, 0xF801, 0], [0xF801, 0xF801, 0xF801, 0xF801, 0], [0, 0, 0, 0], 32) := by decide +kernel

/-- V-EW-5: with the interlace field on only the odd rows are drawn. -/
theorem test_fillRectangle_interlace :
    (run [0x3600C00C, 0] { filling with scfield := true, sckeepodd := true }).map (fun t => (ramHalves t 0x80 4, ramHalves t 0x88 4)) =
      some ([0, 0, 0, 0], [0xF801, 0xF801, 0xF801, 0xF801]) := by decide +kernel

/-- P3: a 4-bit image in fill mode latches `CRASHED` and writes nothing. -/
theorem test_fill_4bit_crashes :
    (run [0x3600C00C, 0] { filling with fbSize := 0 }).map (fun t => (t.crashed, t.ram)) = some (true, small.ram) := by
  decide +kernel

/-- P2, V-EW-2: the triangle in fill mode writes `j + 1` pixels on row `j`, 36 in all. -/
theorem test_triFill :
    (run (edgeWords14 0x08800020) filling).map (fun t => (ramHalves t 0x80 3, ramHalves t 0x88 3, t.ram.mem.length)) =
      some ([0xF801, 0, 0], [0xF801, 0xF801, 0], 72) := by decide +kernel

/-- R323: the opcode plays no part; TRI_FILL_Z, TRI_TEX, TRI_TEX_Z and TRI_SHADE_Z fill the same pixels, and the header's LEVEL is
latched (R362). -/
theorem test_triangles_fill :
    ((run (edgeWords14 0x09880020 ++ List.replicate 4 7) filling).map fun t => (ramHalves t 0x88 3, t.maxLevel)) =
      some ([0xF801, 0xF801, 0], 1) ∧
    ((run (edgeWords14 0x0A900020 ++ List.replicate 16 7) filling).map fun t => (ramHalves t 0x88 3, t.maxLevel)) =
      some ([0xF801, 0xF801, 0], 2) ∧
    ((run (edgeWords14 0x0BB80020 ++ List.replicate 20 7) filling).map fun t => (ramHalves t 0x88 3, t.maxLevel)) =
      some ([0xF801, 0xF801, 0], 7) ∧
    ((run (edgeWords14 0x0D800020 ++ List.replicate 20 7) filling).map fun t => (ramHalves t 0x88 3, t.maxLevel)) =
      some ([0xF801, 0xF801, 0], 0) := by decide +kernel

/-- P5, the first pixel of R595: a one-pixel rectangle of the primitive colour in 1-cycle mode is `0xFC01`, hidden bits 3. -/
theorem test_oneCycle_primitive :
    (run [0x36004004, 0] primColoured).map (fun t => (ramHalves t 0x80 2, hidEntry t.cfg t.ram 0x80, t.ram.mem.length)) =
      some ([0xFC01, 0], 3, 2) := by decide +kernel

/-- A shaded triangle in 1-cycle mode with the combiner passing the shade colour: its fully covered pixel (0, 1) is red. -/
theorem test_triShade :
    (run ([0x0C800008, 0x00080000, 0x00080000, 0, 0, 0, 0, 0x00040000] ++ redShade)
      { primColoured with combine := { primColoured.combine with c1 := { primColoured.combine.c1 with addRgb := 4, addA := 4 } } }).map
        (fun t => rd16 t.cfg t.ram 0x88) = some 0xF801 := by decide +kernel

/-- The same triangle with texture and depth blocks: the shade decides the colour, and the depth is stored with `z_update_en`
(R548): depth 0x08000000 in 32 bits is 0x4000 in 18, whose code is 0x0400. -/
theorem test_triShadeTexZ :
    (run ([0x0F800008, 0x00080000, 0x00080000, 0, 0, 0, 0, 0x00040000] ++ redShade ++ List.replicate 16 0 ++ [0x08000000, 0, 0, 0])
      { primColoured with
        combine := { primColoured.combine with c1 := { primColoured.combine.c1 with addRgb := 4, addA := 4 } },
        mode := { primColoured.mode with zUpdateEn := true } }).map
        (fun t => (rd16 t.cfg t.ram 0x88, rd16 t.cfg t.ram 0x408)) = some (0xF801, 0x0400) := by decide +kernel

/-- TRI_SHADE_TEX likewise, without a depth write. -/
theorem test_triShadeTex :
    (run ([0x0E800008, 0x00080000, 0x00080000, 0, 0, 0, 0, 0x00040000] ++ redShade ++ List.replicate 16 0)
      { primColoured with combine := { primColoured.combine with c1 := { primColoured.combine.c1 with addRgb := 4, addA := 4 } } }).map
        (fun t => (rd16 t.cfg t.ram 0x88, rd16 t.cfg t.ram 0x408)) = some (0xF801, 0) := by decide +kernel

/-- V-FB-5: copy mode moves four texels a group; each is written as two bytes with hidden bits by its bit 0. -/
theorem test_textureRectangle_copy :
    (run [0x2400C000, 0, 0, 0x10000400]
      { Machine.setTile canvas 0 { Tile.zero with size := 2, line := 1 } with
        mode := { OtherModes.zero with cycleType := .copy },
        tmem := setTmem16 (setTmem16 (setTmem16 (setTmem16 [] 0 0x1001) 1 0x1011) 2 0x1021) 3 0x1031 }).map
        (fun t => ramHalves t 0x80 5) = some [0x1001, 0x1011, 0x1021, 0x1031, 0] := by decide +kernel

/-- V-PR-2: the block of TEXTURE_RECTANGLE_FLIP steps `T` along x and `S` per scanline. -/
theorem test_textureRectangleFlip :
    (run [0x25040040, 0, 0, 0x04000400] { canvas with clipXl := 0 }).map
        (fun t => (ewWord t.scratch.ew 26, ewWord t.scratch.ew 32, ewWord t.scratch.ew 34, t.ram)) =
      some (0x00000020, 0x00200000, 0x00200000, small.ram) := by decide +kernel

/-! ## The stages of a pixel -/

/-- V-TX-1, V-TX-2. -/
theorem test_divider :
    rcpOf Config.default 0x6000 = { shift := 0, rcp := 0x2AAB } ∧
    tcDiv { small with mode := { OtherModes.zero with perspTexEn := true } } 0x7FFF 0x8000 0x0100 = (0x5FF80, 0x20000) ∧
    tcDiv small 0xFF00 0x0060 5 = (0x1FF00, 0x00060) := by decide +kernel

/-- V-TX-3. -/
theorem test_mask :
    tcMask (-1) 4 false = 15 ∧ tcMask 17 4 true = 14 ∧ tcMask (-5) 0 true = -5 ∧ tcMask 1024 11 true = 1023 := by decide +kernel

/-- V-TX-7. -/
theorem test_filter :
    filterOne { sfrac := 0x18, tfrac := 0x10, convert := false, mid := false, prev := Rgba.same 0 } 0 255 0 255 = 191 ∧
    filterOne { sfrac := 0x10, tfrac := 0x10, convert := false, mid := true, prev := Rgba.same 0 } 10 20 30 40 = 25 := by
  decide +kernel

/-- V-TX-8. -/
theorem test_convert :
    convertTexel { small with k0 := 0x0AF, k1 := 0x1D5, k2 := 0x1A7, k3 := 0x0DE } { r := 0, g := 127, b := 0x40, a := 0 } false
      (Rgba.same 0) = { r := 238, g := -24, b := 64, a := 64 } := by decide +kernel

/-- V-TX-9. -/
theorem test_lod :
    lodSignals { small with maxLevel := 3, mode := { OtherModes.zero with texLodEn := true } } false 0x50 =
      { tile := 1, magnify := false, distant := false, lf := 0x40 } ∧
    lodSignals { small with maxLevel := 3 } false 0x100 = { tile := 3, magnify := false, distant := true, lf := 0xFF } := by
  decide +kernel

/-- V-CC-2, V-CC-5. -/
theorem test_combiner_tables :
    ext9 0x180 = -128 ∧ ext9 0x17F = 383 ∧ clamp9 0x17F = 255 ∧ clamp9 0x1FF = 0 ∧
    keyAlpha { small with keyWidth := Rgb.same 0x010 } { r := 0x00040, g := 0x1FFC0, b := 0 } = 0xC0 := by decide +kernel

/-- V-BL-3, V-BL-4. -/
theorem test_dither_noise :
    ditherUp 0x86 5 = 0x88 ∧ ditherUp 0xFE 5 = 0xFF ∧ ditherUp 0x85 5 = 0x85 ∧
    rand small 1 = { seed := 0x0029E2C0, value := 0x29 } ∧ noiseOf 0x29 = 0x60 := by decide +kernel

/-- V-Z-3, V-Z-5. -/
theorem test_depth :
    (zCompare { small with mode := { OtherModes.zero with zCompareEn := true } } (pairWr16 small.cfg small.ram 0x400 0xFFFC 3)
      { zi := 0x400, sz := 0x10000, dzpix := 1, dzenc := 0, cvg := 8, memcvg := 7 }).pass = true ∧
    (zCompare { small with mode := { OtherModes.zero with zCompareEn := true } } (pairWr16 small.cfg small.ram 0x400 0x1000 0)
      { zi := 0x400, sz := 0x10040, dzpix := 1, dzenc := 0, cvg := 8, memcvg := 7 }).pass = false ∧
    zStoreHalf 0x12345 6 = 0x1235 := by decide +kernel

/-- V-CV-3. -/
theorem test_coverage :
    (match run (edgeWords14 0x08800020) { primColoured with mode := OtherModes.zero, clipYl := 8 } with
      | some t => decide (cvgMask true (spanRow t.scratch.spans 1) 1 = 0x0C ∧ (spanRow t.scratch.spans 1).lx = 1)
      | none => false) = true := by decide +kernel

/-! ## The hypotheses of the statements are met -/

/-- A call over `ws` in the alternate source, nothing fetched yet. -/
def calling (s : State) (ws : List Word) (fresh : Bool) : State :=
  { s with xbus := true, xmem := (List.range ws.length).foldl (fun m k => Cells.write 0 m k (ws.getD k 0)) [],
           endc := BitVec.ofNat 24 (4 * ws.length),
           call := some { widx := 0, remaining := ws.length, fresh := fresh } }

/-- A state between calls with a range of `n` words from word 0. -/
def ranged (s : State) (n : Nat) : State := { s with endc := BitVec.ofNat 24 (4 * n) }

/-- Words that differ in their top two bits only. -/
theorem witness_IgnoredTopBits :
    (0x2F300000 : Word).extractLsb 29 0 = (0xEF300000 : Word).extractLsb 29 0 := by decide

/-- One word of a command of two; the two words of a NOP, the shortest whole command; the 44 of the longest. -/
theorem witness_DecodeTotal :
    ([0x24000000] : List Word).length < cmdLen (opcodeOf (([0x24000000] : List Word).getD 0 0)) ∧
    ([] : List Word).length < cmdLen (opcodeOf (([] : List Word).getD 0 0)) ∧
    cmdLen (opcodeOf (([0, 0] : List Word).getD 0 0)) ≤ ([0, 0] : List Word).length ∧
    cmdLen (opcodeOf ((List.replicate 44 (0x0F000000 : Word)).getD 0 0)) ≤ (List.replicate 44 (0x0F000000 : Word)).length := by
  decide +kernel

/-- The opcodes on both sides of the triangles, and the first and the last triangle. -/
theorem witness_LengthTable :
    ((0x07 : BitVec 6).toNat < 0x08 ∧ (0x07 : BitVec 6) ≠ 0x24 ∧ (0x07 : BitVec 6) ≠ 0x25) ∧
    (0x0F < (0x10 : BitVec 6).toNat ∧ (0x10 : BitVec 6) ≠ 0x24 ∧ (0x10 : BitVec 6) ≠ 0x25) ∧
    (0x08 ≤ (0x08 : BitVec 6).toNat ∧ (0x08 : BitVec 6).toNat ≤ 0x0F) ∧
    (0x08 ≤ (0x0F : BitVec 6).toNat ∧ (0x0F : BitVec 6).toNat ≤ 0x0F) := by decide

/-- A fresh call whose range is one SET_FILL_COLOR: the first and the third clause. -/
theorem witness_StepRunsDecoded_fresh :
    let s := calling small [0x37000000, 0xF800F800] true
    let c : Call := { widx := 0, remaining := 2, fresh := true }
    s.call = some c ∧ s.crashed = false ∧ c.fresh = true ∧ s.cmdq = [] ∧ s.qCur = 0 ∧
      read (pending (refill s c)) = some (.setFillColor 0xF800F800, []) ∧
      read (fetchWords s c.widx (min c.remaining (cmdBatch s.cfg))) = some (.setFillColor 0xF800F800, []) := by decide +kernel

/-- A call in progress with a whole command at the head of the queue, and one with none: the first and the second clause. -/
theorem witness_StepRunsDecoded_later :
    let s := { calling small [0x37000000, 0xF800F800] false with cmdq := [0, 0, 0x29000000, 0], qCur := 2 }
    let c : Call := { widx := 0, remaining := 2, fresh := false }
    s.call = some c ∧ s.crashed = false ∧ c.fresh = false ∧ wholeHead (pending s) = true ∧
      read (pending (refill s c)) = some (.syncFull, []) ∧
      read (pending (refill { s with qCur := 4 } c)) = some (.setFillColor 0xF800F800, []) := by decide +kernel

/-- The shortest range, one 64-bit word: the fourth clause. -/
theorem witness_StepRunsDecoded_range :
    (ranged small 2).call = none ∧ (ranged small 2).current.toNat / 8 < (ranged small 2).endc.toNat / 8 := by decide

/-- An instruction that is not SYNC_FULL. -/
theorem witness_HandlerFrame : Instr.nop ≠ .syncFull := nofun

/-- One instruction meets every condition at once: NOP. -/
theorem witness_RegistersOwned :
    exec .nop filling = .next filling ∧ (∀ m, Instr.nop ≠ .setOtherModes m) ∧ (∀ c, Instr.nop ≠ .setCombine c) ∧
    (∀ c, Instr.nop ≠ .setFogColor c) ∧ (∀ c, Instr.nop ≠ .setBlendColor c) ∧ (∀ c, Instr.nop ≠ .setEnvColor c) ∧
    (∀ c, Instr.nop ≠ .setPrimColor c) ∧ (∀ c, Instr.nop ≠ .setFillColor c) ∧ (∀ o, Instr.nop ≠ .setKeyGb o) ∧
    (∀ o, Instr.nop ≠ .setKeyR o) ∧ (∀ o, Instr.nop ≠ .setConvert o) ∧ (∀ o, Instr.nop ≠ .setPrimDepth o) ∧
    (∀ o, Instr.nop ≠ .setScissor o) ∧ (∀ o, Instr.nop ≠ .setColorImage o) ∧ (∀ o, Instr.nop ≠ .setTextureImage o) ∧
    (∀ a, Instr.nop ≠ .setZImage a) ∧ (∀ o, Instr.nop ≠ .setTile o) ∧ (∀ o, Instr.nop ≠ .setTileSize o) ∧
    loading .nop = false ∧ drawing .nop = false := by
  refine ⟨rfl, ?_⟩
  simp [loading, drawing]

/-- A drawing command leaves every register of the other commands: its next state exists. -/
theorem witness_RegistersOwned_drawing :
    (run [0x3600C00C, 0] filling).isSome = true ∧ drawing (.fillRectangle { xl := 12, yl := 12, xh := 0, yh := 0 }) = true ∧
      loading (.fillRectangle { xl := 12, yl := 12, xh := 0, yh := 0 }) = false := by decide +kernel

/-- The latch set with a call in progress, and between calls with a range of one 64-bit word; an idle core. -/
theorem witness_CrashedDropsAll :
    let s := { calling small [0x29000000, 0] true with crashed := true }
    let r := { ranged small 2 with crashed := true }
    (s.call = some { widx := 0, remaining := 2, fresh := true } ∧ s.crashed = true) ∧
      (r.call = none ∧ r.crashed = true ∧ r.current.toNat / 8 < r.endc.toNat / 8) ∧ small.call = none := by decide +kernel

/-- A range that ends inside a triangle, with all its words fetched by the first batch; and a queue with nothing left in it. -/
theorem witness_StallKeepsResidue :
    let s := calling small [0x08800020, 0x00200000] true
    let t := { calling small [] false with cmdq := [0, 0], qCur := 2 }
    (s.call = some { widx := 0, remaining := 2, fresh := true } ∧ s.qCur ≤ s.cmdq.length ∧ s.crashed = false ∧
      wholeHead (pending (refill s { widx := 0, remaining := 2, fresh := true })) = false) ∧
    (t.call = some { widx := 0, remaining := 0, fresh := false } ∧ t.qCur ≤ t.cmdq.length ∧ t.crashed = false ∧
      wholeHead (pending (refill t { widx := 0, remaining := 0, fresh := false })) = false) := by decide +kernel

/-- Cursors that differ in their low three bits only, and an inverted range. -/
theorem witness_EmptyRange :
    (({ small with endc := 7 } : State).call = none ∧
      ({ small with endc := 7 } : State).endc.toNat / 8 ≤ ({ small with endc := 7 } : State).current.toNat / 8) ∧
    ({ small with endc := 8, current := 16 } : State).endc.toNat / 8 ≤
      ({ small with endc := 8, current := 16 } : State).current.toNat / 8 := by decide

/-- Both sources; the first word index beyond main memory and the last of the 32-bit range. -/
theorem witness_FetchSource :
    ({ small with xbus := true } : State).xbus = true ∧ small.xbus = false ∧
    (memSize small.cfg / 4 ≤ 0x400 ∧ 0x400 < 2 ^ 32) ∧ (memSize small.cfg / 4 ≤ 0xFFFFFFFF ∧ 0xFFFFFFFF < 2 ^ 32) := by
  decide +kernel

/-- A state between calls, with the latch set and a residue. -/
theorem witness_HostResetEffect : ({ filling with crashed := true, cmdq := [0x08800020, 0] } : State).call = none := rfl

/-- A range of one 64-bit word that is not empty. -/
theorem witness_RunEnds :
    (ranged small 2).call = none ∧ (ranged small 2).qCur = 0 ∧
      (ranged small 2).current.toNat / 8 < (ranged small 2).endc.toNat / 8 := by decide

/-- The words of a range reading as at the start, whatever has been dispatched, on a list that writes no memory: the proviso in
main memory. -/
theorem dispatchAll_nop (k : Nat) (s : State) :
    (dispatchAll k ([0, 0] : List Word) s).1 = s := by
  cases k with
  | zero => rfl
  | succ k =>
    cases h : s.crashed with
    | true => simp [dispatchAll, h]
    | false =>
      have e : dispatchAll (k + 1) ([0, 0] : List Word) s = dispatchAll k [] s := by
        simp only [dispatchAll, h]; rfl
      rw [e]
      cases k with
      | zero => rfl
      | succ k => simp [dispatchAll, h]; rfl

/-- Main memory of zeros as the list: the words of the range are a NOP, and the proviso holds; and the alternate source. -/
theorem witness_SplitIndependence :
    let s := ranged small 2
    s.call = none ∧ s.qCur = 0 ∧ s.current.toNat / 8 < s.endc.toNat / 8 ∧
      (∀ k, fetchWords (dispatchAll k (s.cmdq ++ fetchWords s 0 2) s).1 0 2 = fetchWords s 0 2) ∧
      ({ s with xbus := true } : State).xbus = true := by
  refine ⟨rfl, rfl, by decide, fun k => ?_, rfl⟩
  have e : (ranged small 2).cmdq ++ fetchWords (ranged small 2) 0 2 = ([0, 0] : List Word) := by decide +kernel
  rw [e, dispatchAll_nop]

/-- The invariant of a state with a call in progress, whose step answers a next state. -/
theorem witness_InvStep :
    Inv (calling filling [0x3600C00C, 0] true) ∧
      (match step (calling filling [0x3600C00C, 0] true) with
        | .next _ => true
        | _ => false) = true := by decide +kernel

/-- The invariant of a state between calls, with image widths at their bounds. -/
theorem witness_InvHost : Inv { filling with fbWidth := 1024, tiWidth := 1, cmdq := [0x08800020, 0] } := by decide +kernel

/-- The first and the last opcode of each group of commands that do nothing. -/
theorem witness_NoOps :
    Instr.syncTile ∈ noOps ∧ ([0x00000000, 0x07000000, 0x10000000, 0x23000000, 0x26000000, 0x28000000, 0x31000000] : List Word).all
      (fun w => noOpOpcode (w.extractLsb 29 24)) = true := by decide

/-- A word of each opcode the statements of the register commands name. -/
theorem witness_registerWords :
    (0x29FFFFFF : Word).extractLsb 29 24 = 0x29 ∧ (0xEF182C00 : Word).extractLsb 29 24 = 0x2F ∧
    (0xFC121824 : Word).extractLsb 29 24 = 0x3C ∧ (0x2D000000 : Word).extractLsb 29 24 = 0x2D ∧
    (0x2E000000 : Word).extractLsb 29 24 = 0x2E ∧ (0x2A123456 : Word).extractLsb 29 24 = 0x2A ∧
    (0x2B000000 : Word).extractLsb 29 24 = 0x2B ∧ (0x2C15FD5D : Word).extractLsb 29 24 = 0x2C ∧
    (0x37000000 : Word).extractLsb 29 24 = 0x37 ∧ (0x38000000 : Word).extractLsb 29 24 = 0x38 ∧
    (0x39000000 : Word).extractLsb 29 24 = 0x39 ∧ (0x3A000A80 : Word).extractLsb 29 24 = 0x3A ∧
    (0x3B000000 : Word).extractLsb 29 24 = 0x3B ∧ (0xFF10013F : Word).extractLsb 29 24 = 0x3F ∧
    (0x3D100003 : Word).extractLsb 29 24 = 0x3D ∧ (0x3E000000 : Word).extractLsb 29 24 = 0x3E ∧
    (0x35100800 : Word).extractLsb 29 24 = 0x35 ∧ (0x32004004 : Word).extractLsb 29 24 = 0x32 := by decide

/-- A tile that is not the one named. -/
theorem witness_SetTile : (1 : BitVec 3) ≠ 0 := by decide

/-- Texture images of 8, 16 and 32 bits; a LOAD_TLUT of one row, on both sides of the row's bound. -/
theorem witness_LoadCompletes :
    ({ small with tiSize := 1 } : State).tiSize ≠ 0 ∧ (textured 4 1).tiSize ≠ 0 ∧ ({ small with tiSize := 3 } : State).tiSize ≠ 0 ∧
      (3 : BitVec 12).toNat / 4 ≤ (0 : BitVec 12).toNat / 4 ∧ (0 : BitVec 12).toNat / 4 ≤ (4 : BitVec 12).toNat / 4 := by decide

/-- A 4-bit texture image; a LOAD_TLUT of two rows at the bound; loads that complete. -/
theorem witness_LoadRefusals :
    let o : TileSizeOps := { tile := 7, sl := 0, tl := 3, sh := 0x00C, th := 4 }
    loading (.loadTlut o) = true ∧ loading (.loadTile o) = true ∧ loading (.loadBlock o) = true ∧ small.tiSize = 0 ∧
      o.th.toNat / 4 > o.tl.toNat / 4 ∧ (run [0x34000000, 0x0000C004] (textured 4 1)).isSome = true := by decide +kernel

/-- P4, the smallest rectangle; and one that fills texture memory. -/
theorem witness_LoadTileExact :
    (let o : TileSizeOps := { sl := 0, tl := 0, tile := 0, sh := 0x00C, th := 0x004 }
      let s := textured 4 1
      tmemWf s = true ∧ s.tiSize = 2 ∧ (getTile s o.tile).size = 2 ∧ (getTile s o.tile).format ≠ 1 ∧
        o.sl.toNat / 4 ≤ o.sh.toNat / 4 ∧ o.tl.toNat / 4 ≤ o.th.toNat / 4 ∧ o.tl.toNat < o.th.toNat / 4 * 4 + 3 ∧
        4 = o.sh.toNat / 4 - o.sl.toNat / 4 + 1 ∧ 2 = o.th.toNat / 4 - o.tl.toNat / 4 + 1 ∧ 4 % 4 = 0 ∧
        (getTile s o.tile).line.toNat * 4 = 4 ∧ 4 * 2 ≤ 2048) ∧
    (let o : TileSizeOps := { sl := 0, tl := 2, tile := 0, sh := 0x0FF, th := 0x07F }
      let s := textured 64 16
      tmemWf s = true ∧ s.tiSize = 2 ∧ (getTile s o.tile).size = 2 ∧ (getTile s o.tile).format ≠ 1 ∧
        o.sl.toNat / 4 ≤ o.sh.toNat / 4 ∧ o.tl.toNat / 4 ≤ o.th.toNat / 4 ∧ o.tl.toNat < o.th.toNat / 4 * 4 + 3 ∧
        64 = o.sh.toNat / 4 - o.sl.toNat / 4 + 1 ∧ 32 = o.th.toNat / 4 - o.tl.toNat / 4 + 1 ∧ 64 % 4 = 0 ∧
        (getTile s o.tile).line.toNat * 4 = 64 ∧ 64 * 32 ≤ 2048) := by decide +kernel

/-- One unit, and all 512. -/
theorem witness_LoadBlockExact :
    let o1 : TileSizeOps := { sl := 5, tl := 0, tile := 0, sh := 5, th := 0x800 }
    let o2 : TileSizeOps := { sl := 0, tl := 0xFFF, tile := 0, sh := 0x7FF, th := 0xFFF }
    let s := textured 1 0
    tmemWf s = true ∧ s.tiSize = 2 ∧ (getTile s 0).size = 2 ∧ (getTile s 0).format ≠ 1 ∧ (getTile s 0).line = 0 ∧
      (o1.sl.toNat ≤ o1.sh.toNat ∧ 1 = (o1.sh.toNat - o1.sl.toNat) / 4 + 1 ∧ 1 ≤ 512) ∧
      (o2.sl.toNat ≤ o2.sh.toNat ∧ 512 = (o2.sh.toNat - o2.sl.toNat) / 4 + 1 ∧ 512 ≤ 512) := by decide +kernel

/-- One entry in the last quarter row the rule allows, and 512 entries. -/
theorem witness_LoadTlutExact :
    let o1 : TileSizeOps := { sl := 3, tl := 2, tile := 0, sh := 0, th := 3 }
    let o2 : TileSizeOps := { sl := 0, tl := 0, tile := 0, sh := 0x7FC, th := 0 }
    let s := { small with tiSize := 2 }
    tmemWf s = true ∧ s.tiSize = 2 ∧ (getTile s 0).size = 0 ∧ (getTile s 0).format ≠ 1 ∧
      (o1.th.toNat / 4 = o1.tl.toNat / 4 ∧ o1.tl.toNat < o1.th.toNat / 4 * 4 + 3 ∧ o1.sl.toNat / 4 ≤ o1.sh.toNat / 4 ∧
        1 = o1.sh.toNat / 4 - o1.sl.toNat / 4 + 1 ∧ 1 ≤ 512) ∧
      (o2.th.toNat / 4 = o2.tl.toNat / 4 ∧ o2.tl.toNat < o2.th.toNat / 4 * 4 + 3 ∧ o2.sl.toNat / 4 ≤ o2.sh.toNat / 4 ∧
        512 = o2.sh.toNat / 4 - o2.sl.toNat / 4 + 1 ∧ 512 ≤ 512) := by decide +kernel

/-- The eleven drawing commands on a state where none of them raises: the first clause. -/
theorem witness_DrawCompletes :
    let r : RectOps := { xl := 12, yl := 12, xh := 0, yh := 0 }
    let x : TexRectOps := { rect := r, tile := 0, s := 0, t := 0, dsdx := 0x400, dtdy := 0x400 }
    ∀ i ∈ ([.triFill edges14, .triFillZ edges14 noZ, .triTex edges14 noTex, .triTexZ edges14 noTex noZ, .triShade edges14 noShade,
        .triShadeZ edges14 noShade noZ, .triShadeTex edges14 noShade noTex, .triShadeTexZ edges14 noShade noTex noZ,
        .textureRectangle x, .textureRectangleFlip x, .fillRectangle r] : List Instr),
      drawing i = true ∧ raises canvas i = false ∧ raises filling i = false := by decide +kernel

/-- A triangle's parts; a rectangle has none: the second and the third clause. -/
theorem witness_DrawCompletes_level :
    triParts (.triTexZ edges14 noTex noZ) = some (edges14, noShade, noTex, noZ) ∧
      triParts (.fillRectangle { xl := 12, yl := 12, xh := 0, yh := 0 }) = none ∧
      drawing (.fillRectangle { xl := 12, yl := 12, xh := 0, yh := 0 }) = true := by decide

/-- A fill into a 4-bit image raises, a copy into a 32-bit image under the parameter, and a load of a 4-bit texture image. -/
theorem witness_CrashedExactly :
    let i : Instr := .fillRectangle { xl := 12, yl := 12, xh := 0, yh := 0 }
    let o : TileSizeOps := { tile := 7, sl := 0, tl := 3, sh := 0x00C, th := 4 }
    let locked : State := { small with cfg := { small.cfg with loadLockup := true, copy32Lockup := true } }
    drawing i = true ∧ raises { filling with fbSize := 0 } i = true ∧
      raises { locked with fbSize := 3, mode := { OtherModes.zero with cycleType := .copy } } i = true ∧
      raises locked (.loadTile o) = true ∧ raises locked (.loadBlock o) = true ∧
      raises { locked with tiSize := 2 } (.loadTlut o) = true ∧
      (run [0x3600C00C, 0] filling).isSome = true ∧ (run [0x3600C00C, 0] { filling with fbSize := 0 }).isSome = true := by
  decide +kernel

/-- A drawing command on canonical memory, with a byte and an entry outside what it stores. -/
theorem witness_DrawFrame :
    drawing (.fillRectangle { xl := 12, yl := 12, xh := 0, yh := 0 }) = true ∧ ramWf filling = true ∧
      (run [0x3600C00C, 0] filling).isSome = true ∧
      0x108 ∉ storedBytes filling (.fillRectangle { xl := 12, yl := 12, xh := 0, yh := 0 }) ∧
      0x107 ∈ storedBytes filling (.fillRectangle { xl := 12, yl := 12, xh := 0, yh := 0 }) ∧
      2 * 0x84 + 1 ∉ storedBytes filling (.fillRectangle { xl := 12, yl := 12, xh := 0, yh := 0 }) := by decide +kernel

/-- Fill mode with the three image sizes; copy mode, a 32-bit image among them. -/
theorem witness_FillAndCopyMode :
    let i : Instr := .fillRectangle { xl := 12, yl := 12, xh := 0, yh := 0 }
    let copying : State := { canvas with mode := { OtherModes.zero with cycleType := .copy } }
    drawing i = true ∧ filling.mode.cycleType = .fill ∧ ({ filling with fbSize := 1 } : State).fbSize ≠ 0 ∧ filling.fbSize = 2 ∧
      ({ filling with fbSize := 1 } : State).fbSize = 1 ∧ ({ filling with fbSize := 3 } : State).fbSize = 3 ∧
      copying.mode.cycleType = .copy ∧ raises copying i = false ∧ raises { copying with fbSize := 3 } i = false ∧
      ¬ (copying.mode.alphaCompareEn = true ∧ copying.mode.ditherAlphaEn = true ∧ copying.fbSize = 1) := by decide +kernel

/-- P1; the smallest rectangle in the last quarter row the rule allows, at the scissor's bound; a pixel inside and an index of
none. -/
theorem witness_FillRectangleExact :
    (let o : RectOps := { xl := 0x00C, yl := 0x00C, xh := 0, yh := 0 }
      let s := filling
      ramWf s = true ∧ s.mode.cycleType = .fill ∧ s.fbSize = 2 ∧ s.scfield = false ∧ o.xh.toNat ≤ o.xl.toNat ∧
        o.yh.toNat ≤ o.yl.toNat ∧ s.clipXh.toNat ≤ o.xh.toNat ∧ o.xl.toNat < s.clipXl.toNat ∧ s.clipYh.toNat ≤ o.yh.toNat ∧
        o.yl.toNat < s.clipYl.toNat ∧ o.yh.toNat < o.yl.toNat / 4 * 4 + 3 ∧
        (((s.fbAddress.toNat / 2 : Nat) : Int) + ((s.fbWidth.toNat : Int) * 3 + 3)).toNat < memSize s.cfg / 2 ∧
        (0 : Nat) < s.fbAddress.toNat / 2) ∧
    (let o : RectOps := { xl := 0x4FF, yl := 0x3BE, xh := 0x4FF, yh := 0x3BE }
      let s := { filling with clipXh := 0x4FF, clipYh := 0x3BE, fbWidth := 320 }
      ramWf s = true ∧ s.mode.cycleType = .fill ∧ s.fbSize = 2 ∧ s.scfield = false ∧ o.xh.toNat ≤ o.xl.toNat ∧
        o.yh.toNat ≤ o.yl.toNat ∧ s.clipXh.toNat ≤ o.xh.toNat ∧ o.xl.toNat < s.clipXl.toNat ∧ s.clipYh.toNat ≤ o.yh.toNat ∧
        o.yl.toNat < s.clipYl.toNat ∧ o.yh.toNat < o.yl.toNat / 4 * 4 + 3) := by decide +kernel

/-- A triangle with all its blocks. -/
theorem witness_TriangleBlock :
    triParts (.triShadeTexZ edges14 noShade noTex noZ) = some (edges14, noShade, noTex, noZ) := by decide

/-- The reset state, a scissor of no width, and an inverted one. -/
theorem witness_EmptyScissor :
    drawing (.triFill edges14) = true ∧ State.reset.clipXl.toNat ≤ State.reset.clipXh.toNat ∧
      ({ canvas with clipXh := 0x500 } : State).clipXl.toNat ≤ ({ canvas with clipXh := 0x500 } : State).clipXh.toNat ∧
      ({ canvas with clipXh := 0xFFF } : State).clipXl.toNat ≤ ({ canvas with clipXh := 0xFFF } : State).clipXh.toNat := by
  decide +kernel

/-- Pixels of P2 at both ends of its longest row, and one kept by the interlace field. -/
theorem witness_ScissorConfines :
    drawing (.triFill edges14) = true ∧ ((0, 7) : Int × Int) ∈ pixelsOf filling (.triFill edges14) ∧
      ((7, 7) : Int × Int) ∈ pixelsOf filling (.triFill edges14) ∧
      ((1, 1) : Int × Int) ∈ pixelsOf { filling with scfield := true, sckeepodd := true } (.triFill edges14) ∧
      ({ filling with scfield := true, sckeepodd := true } : State).scfield = true := by decide +kernel

/-- R517, worked by hand: pass 0 weighs by the pixel's alpha 0x30, so its complement is 0xCF, which stays where pass 1 does not
blend; where it blends with weight code 3, 0, the complement is 0xFF. R516: no equation, no value. -/
theorem test_invPixelAlpha :
    let s : State := { small with mode := { OtherModes.zero with blendM1b1 := 3 } }
    let i : BlendIn :=
      { pixel := Rgba.same 0x30, memory := Rgba.same 0, shadeA := 0, blshifta := 0, blshiftb := 0 }
    let f : DepthFlags := { blendEn := false, prewrap := false, blshifta := 0, blshiftb := 0 }
    (blender2Regs s i f).invPixelAlpha = some 0xCF ∧
      (blender2Regs s i { f with blendEn := true }).invPixelAlpha = some 0xFF ∧
      (blender1Regs s i f).invPixelAlpha = none ∧
      (blender1Regs s i { f with blendEn := true }).invPixelAlpha = some 0xCF := by decide

/-- R102: a debug read of main memory is `Rd32`, and none answers while a call is in progress. -/
theorem test_debugReads :
    let ram : Ram := { mem := [(4, 0x12), (7, 0x34)], hid := [] }
    debugMem { small with ram := ram } 1 = some 0x12000034 ∧ debugTmem { small with tmem := [(4, 0x56)] } 1 = some 0x56000000 ∧
      debugMem { small with ram := ram, call := some { widx := 0, remaining := 0, fresh := true } } 1 = none := by
  decide +kernel

/-- A drawing command that visits 36 pixels. -/
theorem witness_PixelsOnce :
    drawing (.triFill edges14) = true ∧ (pixelsOf filling (.triFill edges14)).length = 36 := by decide +kernel

/-- A primitive without attributes, a pixel of mask `mask` and depth 0, and memory as in `canvas`: for DroppedPixel. -/
def flatEnv : PrimEnv :=
  { flip := true, tile := 0, spans := [], inc := Attr8.same 0,
    centre := { cd := Rgba.same 0, dy := Rgba.same 0, cdz := 0, dzdy := 0 },
    tex := { tile := 0, inc := { s := 0, t := 0, w := 0 }, dy := { s := 0, t := 0, w := 0 } }, dzpix := 1, dzenc := 0 }

/-- A pixel at (1, 1). -/
def flatPixel (mask : Byte) : PixelAt :=
  { x := 1, y := 1, mask := mask, attrs := Attr8.same 0, next := { s := 0, t := 0, w := 0 } }

/-- The depth compare's answer on that pixel. -/
def flatDepth (s : State) (mask : Byte) : DepthOut :=
  let w := pixelWork s false flatEnv (flatPixel mask) 1
  zCompare s s.ram (depthIn s flatEnv (flatPixel mask) w (fbRead s s.ram 9))

/-- A transparent pixel that is not in front of the stored depth 0; an alpha just below the threshold; no coverage at all, and a
mask without its corner sample; a compare that passes and draws the threshold; the default `NOISE`. -/
theorem witness_DroppedPixel :
    let deep : State := { canvas with mode := { OtherModes.zero with zCompareEn := true, zMode := .transparent } }
    let alpha : State :=
      { primColoured with
        mode := { primColoured.mode with alphaCompareEn := true }, primColor := { r := 0, g := 0, b := 0, a := 0x7F },
        blendColor := { r := 0, g := 0, b := 0, a := 0x80 } }
    let smooth : State := { canvas with mode := { OtherModes.zero with antialiasEn := true } }
    let noisyMode : OtherModes := { OtherModes.zero with alphaCompareEn := true, ditherAlphaEn := true, rgbDitherSel := 2 }
    let noisy : State := { canvas with mode := noisyMode }
    (flatDepth deep 0xFF).pass = false ∧
    (alpha.mode.alphaCompareEn = true ∧ alpha.mode.ditherAlphaEn = false ∧
      (pixelWork alpha false flatEnv (flatPixel 0xFF) 1).comb.pixel.a < (alpha.blendColor.a.toNat : Int)) ∧
    (smooth.mode.antialiasEn = true ∧ (flatDepth smooth 0).cvg = 0) ∧
    (canvas.mode.antialiasEn = false ∧ (flatPixel 0x7F).mask.getLsbD 7 = false) ∧
    ((flatDepth noisy 0xFF).pass = true ∧ noisy.mode.rgbDitherSel = 2) ∧ canvas.cfg.noise = .default := by decide +kernel

/-- The last byte, halfword and word of memory, the smallest and the largest memory, and indices on both sides of the bound, a
negative one among them. -/
theorem witness_MemoryReadWrite :
    let ram : Ram := { mem := [(0, 1), (0xFFF, 2)], hid := [] }
    let tiny : Config := { Config.default with memBits := 1 }
    let huge : Config := { Config.default with memBits := 32 }
    (ramOk small.cfg ram = true ∧ small.cfg.memBits ≤ 32 ∧ 0xFFF < memSize small.cfg ∧ 0x7FF < memSize small.cfg / 2 ∧
      0x3FF < memSize small.cfg / 4 ∧ 0xFFE ≠ 0xFFF ∧ 0xFFD / 2 ≠ 0x7FF ∧ 0xFFB / 4 ≠ 0x3FF) ∧
    (ramOk tiny { mem := [], hid := [] } = true ∧ tiny.memBits ≤ 32 ∧ 0 < memSize tiny / 2) ∧
    (ramOk huge ram = true ∧ huge.memBits ≤ 32 ∧ 0xFFFFFFFF < memSize huge) ∧
    ((memSize small.cfg : Int) ≤ 0x1000 % 2 ^ 32 ∧ ((memSize small.cfg / 2 : Nat) : Int) ≤ 0x800 % 2 ^ 32 ∧
      ((memSize small.cfg / 4 : Nat) : Int) ≤ (-1) % 2 ^ 32) := by decide +kernel

/-- The same for the pair primitives, with a halfword and a byte that differ from the one written. -/
theorem witness_PairPrimitives :
    let ram : Ram := { mem := [(0xFFF, 2)], hid := [(0x7FF, 0)] }
    (ramOk small.cfg ram = true ∧ 1 ≤ small.cfg.memBits ∧ small.cfg.memBits ≤ 32 ∧ 0x7FF < memSize small.cfg / 2 ∧
      0x3FF < memSize small.cfg / 4 ∧ 0xFFE < memSize small.cfg) ∧ (0x7FE % 2 ^ 32 ≠ 0x7FF ∧ 0x7FD / 2 ≠ 0x3FF ∧ 0x7FE ≠ 0xFFE / 2) ∧
    ((memSize small.cfg : Int) ≤ (-1) % 2 ^ 32 ∧ ((memSize small.cfg / 2 : Nat) : Int) ≤ 0x800 % 2 ^ 32 ∧
      ((memSize small.cfg / 4 : Nat) : Int) ≤ 0x400 % 2 ^ 32) := by decide +kernel

/-- Canonical texture memory, and indices that are equal and unequal once wrapped. -/
theorem witness_MemoryViews :
    Cells.wf (0 : Byte) 4096 ([(0, 1), (4095, 2)] : Cells Byte) = true ∧ (2048 : Int) % 2048 = 0 % 2048 ∧
      ¬ (2047 : Int) % 2048 = 0 % 2048 := by decide

/-- The ends of the ranges of codes and depths. -/
theorem witness_DepthCode :
    0xFFFF < 2 ^ 16 ∧ (0x3FFE < 0x3FFF ∧ 0x3FFF < 2 ^ 14) ∧ (0 < 1 ∧ 1 < 2 ^ 14) ∧ 0x3FFFF < 2 ^ 18 ∧
      0x3FFFF % 2 ^ zShift (zCompress 0x3FFFF / 2 ^ 13) = 0 ∧ ¬ 0x3F % 2 ^ zShift (zCompress 0x3F / 2 ^ 13) = 0 := by decide +kernel

/-- The ends of the ranges, and the two forms of a primitive's delta-Z. -/
theorem witness_DeltaZ : (0 < 16 ∧ 15 < 16) ∧ (0 < 2 ^ 16 ∧ 0xFFFF < 2 ^ 16) := by decide

/-- The last halfword of memory, the largest depth and delta-Z. -/
theorem witness_DepthReadBack :
    ramOk small.cfg small.ram = true ∧ (0x7FF : Int) % 2 ^ 32 < ((memSize small.cfg / 2 : Nat) : Int) ∧ 0x3FFFF < 2 ^ 18 ∧ 15 < 16 := by
  decide +kernel

/-- Each Z mode with the compare on, on a memory whose halfword 0x400 holds the cleared depth, and on one where it holds 0. -/
theorem witness_DepthModes :
    let mk := fun (z : ZMode) => ({ small with mode := { OtherModes.zero with zCompareEn := true, zMode := z } } : State)
    let clear := pairWr16 small.cfg small.ram 0x400 0xFFFC 3
    let i : DepthIn := { zi := 0x400, sz := 0, dzpix := 1, dzenc := 0, cvg := 8, memcvg := 7 }
    small.mode.zCompareEn = false ∧ (mk .opaqueSurface).mode.zCompareEn = true ∧ (mk .opaqueSurface).mode.zMode = .opaqueSurface ∧
      zDecompress (pairRd16 small.cfg clear 0x400).1.toNat = 0x3ffff ∧ (mk .transparent).mode.zMode = .transparent ∧
      (mk .decal).mode.zMode = .decal ∧ (zCompare (mk .decal) small.ram i).pass = true ∧
      storedDz 0 3 = some 16 ∧ (mk .decal).mode.zMode ≠ .interpenetrating := by decide +kernel

/-- The first and the last sub-scanline, column and mask bit; the empty mask, and a mask with one sample. -/
theorem witness_CoverageMasks :
    (0 < 4 ∧ 3 < 4) ∧ (0 < 8 ∧ 7 < 8) ∧ (0x00 : Byte) = 0 ∧ (0x01 : Byte) ≠ 0 ∧ (0 < 8 ∧ (0x01 : Byte).getLsbD 0 = true) := by decide

/-- Full coverage, and the ends of the ranges of the third and the fourth clause. -/
theorem witness_CorrectionRange :
    (coverOf 0xFF).cvg = 8 ∧ (0 : Int) ≤ 1023 ∧ (1023 : Int) < 1024 ∧ (0 : Int) ≤ 2 ^ 31 - 1 ∧ (2 ^ 31 - 1 : Int) < 2 ^ 31 := by
  decide

/-- Mask 0 and the largest mask; both halves of a mirrored pair. -/
theorem witness_MaskMirror :
    (0 : BitVec 4) = 0 ∧ (15 : BitVec 4) ≠ 0 ∧ (0 : Int) / 2 ^ (min (15 : BitVec 4).toNat 10) % 2 = 0 ∧
      ¬ (1024 : Int) / 2 ^ (min (15 : BitVec 4).toNat 10) % 2 = 0 := by decide

/-- Texture memory of zeros and tile 0 as 8-bit intensity, with `bi_lerp0` on. -/
def flatTextured : State :=
  { Machine.setTile small 0 { Tile.zero with size := 1 } with mode := { OtherModes.zero with biLerp0 := true } }

/-- Texture memory of zeros gives one colour everywhere. -/
theorem witness_FlatTexture :
    (∀ q x y, fetchTexel flatTextured (getTile flatTextured 0) q x y = Rgba.same 0) ∧
      (if false then flatTextured.mode.biLerp1 else flatTextured.mode.biLerp0) = true ∧
      (flatTextured.mode.convertOne && false) = false := by
  refine ⟨fun q x y => ?_, rfl, rfl⟩
  have tile : getTile flatTextured 0 = { Tile.zero with size := 1 } := by decide +kernel
  have direct : flatTextured.mode.enTlut = false := rfl
  have zeros : ∀ a, tmem8 flatTextured.tmem a = 0 := fun _ => rfl
  rw [fetchTexel, direct, tile]
  simp [fetchDirect, byteAt, zeros, Tile.zero, unsigned]

/-- Keying off. -/
theorem witness_CombinerIdentity : primColoured.mode.keyEn = false := rfl

/-- The ends of the ranges, and each `cvg_dest`. -/
theorem witness_FinalCoverage :
    let mk := fun (c : CvgDest) => ({ small with mode := { OtherModes.zero with cvgDest := c } } : State)
    ((0 : Int) ≤ 0 ∧ (0 : Int) ≤ 8 ∧ (8 : Int) ≤ 8 ∧ (0 : Int) ≤ 7 ∧ (7 : Int) ≤ 7) ∧ (mk .clamp).mode.cvgDest = .clamp ∧
      (mk .wrap).mode.cvgDest = .wrap ∧ (mk .zap).mode.cvgDest = .zap ∧ (mk .save).mode.cvgDest = .save := by decide

/-- The last pixel in memory of each image size, read back with `image_read_en`; 16-bit RGBA and 16-bit intensity. -/
theorem witness_PixelReadBack :
    let mk := fun (size : BitVec 2) (f : BitVec 3) =>
      ({ canvas with fbSize := size, fbFormat := f, fbAddress := 0, mode := { OtherModes.zero with imageReadEn := true } } : State)
    ramOk (mk 2 0).cfg canvas.ram = true ∧ (mk 2 0).mode.imageReadEn = true ∧
      ((mk 2 0).fbFormat = 0 ∧ fbHalf (mk 2 0) 0x7FF % 2 ^ 32 < ((memSize (mk 2 0).cfg / 2 : Nat) : Int)) ∧
      ((mk 2 4).fbFormat ≠ 0 ∧ fbHalf (mk 2 4) 0x7FF % 2 ^ 32 < ((memSize (mk 2 4).cfg / 2 : Nat) : Int)) ∧
      ((mk 3 0).fbSize = 3 ∧ fbWord (mk 3 0) 0x3FF % 2 ^ 32 < ((memSize (mk 3 0).cfg / 4 : Nat) : Int)) ∧
      ((mk 1 0).fbSize = 1 ∧ fbByte (mk 1 0) 0xFFF % 2 ^ 32 < (memSize (mk 1 0).cfg : Int)) := by decide +kernel

end Sys2Proof.Tests
end

section
/-! The power-on state (10_state.md R69): what its fields hold, and that it meets the invariant. -/

namespace Sys2Proof.Machine

@[simp] theorem getTile_powerOn (cfg : Config) (n : BitVec 3) : getTile (State.powerOn cfg) n = Tile.zero :=
  Vector.getElem_replicate n.isLt

@[simp] theorem tmem8_nil (a : Int) : tmem8 [] a = 0 := rfl

@[simp] theorem spanRow_nil (j : Int) : spanRow [] j = Span.zero := ite_self _

/-- With nothing queued and no call in progress the queue is in order. -/
theorem queueOk_idle {s : State} (hq : s.cmdq = []) (hc : s.qCur = 0) (hn : s.call = none) : queueOk s = true := by
  simp [queueOk, hq, hc, hn, residueOk, wholeHead]

/-- The storage of the power-on state is empty, and the empty list is canonical at every size. -/
theorem inv_powerOn (cfg : Config) : Inv (State.powerOn cfg) := by
  refine ⟨?ram, Cells.wf_nil _ _, Cells.wf_nil _ _, rfl, ?primZ, queueOk_idle rfl rfl rfl, ?scratch⟩
  case ram => simp [ramWf, ramOk, Memory.wf, State.powerOn, Cells.wf_nil]
  case primZ => simp [primZOk, State.powerOn]
  case scratch => simp [scratchWf, State.powerOn, Scratch.zero, Cells.wf_nil]

/-- Settles O16: the reset state is by definition a power-on state. -/
theorem invAtReset : Obligations.InvAtReset :=
  ⟨inv_powerOn _, inv_powerOn, rfl⟩

/-- The derived cache of a tile whose fields are all 0: clamping is on, since both masks are 0 (10_state.md R42). -/
theorem tileCache_zero :
    clampEnS Tile.zero = true ∧ clampEnT Tile.zero = true ∧ clampDiffS Tile.zero = 0 ∧ clampDiffT Tile.zero = 0 ∧
      maskClamped Tile.zero.maskS = 0 ∧ maskClamped Tile.zero.maskT = 0 := by decide

/-- Settles O19: the registers are read off the record; tiles, texture memory and the span buffer by their lemmas. -/
theorem resetValues : Obligations.ResetValues := by
  intro cfg
  simp only [getTile_powerOn, tileCache_zero]
  simp [State.powerOn, Scratch.zero, Span.zero]

end Sys2Proof.Machine
end

section
/-! What a command that neither draws nor loads does (40_command_processor.md R175, R176, 41_sync_commands.md R201 to R204,
42_mode_commands.md, 43_image_tile_commands.md), and the ownership of the registers (10_state.md). -/

namespace Sys2Proof.Machine

/-- The effect of a command that neither draws nor loads: which it is, the state before, and the state after. -/
inductive SettingEffect (s : State) : Instr → State → Prop where
  | noOp {i : Instr} (h : i ∈ noOps) : SettingEffect s i s
  | syncFull : SettingEffect s .syncFull (emitSync s)
  | setKeyGb (o : KeyGbOps) : SettingEffect s (.setKeyGb o)
      { s with keyWidth := { s.keyWidth with g := o.widthG, b := o.widthB },
               keyCenter := { s.keyCenter with g := o.centerG, b := o.centerB },
               keyScale := { s.keyScale with g := o.scaleG, b := o.scaleB } }
  | setKeyR (o : KeyROps) : SettingEffect s (.setKeyR o)
      { s with keyWidth := { s.keyWidth with r := o.widthR }, keyCenter := { s.keyCenter with r := o.centerR },
               keyScale := { s.keyScale with r := o.scaleR } }
  | setConvert (o : ConvertOps) : SettingEffect s (.setConvert o)
      { s with k0 := o.k0, k1 := o.k1, k2 := o.k2, k3 := o.k3, k4 := o.k4, k5 := o.k5 }
  | setScissor (o : ScissorOps) : SettingEffect s (.setScissor o)
      { s with clipXh := o.xh, clipYh := o.yh, clipXl := o.xl, clipYl := o.yl, scfield := o.field, sckeepodd := o.odd }
  | setPrimDepth (o : PrimDepthOps) : SettingEffect s (.setPrimDepth o)
      { s with primZ := 0#1 ++ o.z ++ 0#16, primDz := o.dz }
  | setOtherModes (m : OtherModes) : SettingEffect s (.setOtherModes m) { s with mode := m }
  | setTileSize (o : TileSizeOps) : SettingEffect s (.setTileSize o) (setExtent s o)
  | setTile (o : TileOps) : SettingEffect s (.setTile o)
      (setTile s o.tile
        { getTile s o.tile with format := o.format, size := o.size, line := o.line, tmem := o.tmem, palette := o.palette,
                                ct := o.ct, mt := o.mt, maskT := o.maskT, shiftT := o.shiftT, cs := o.cs, ms := o.ms,
                                maskS := o.maskS, shiftS := o.shiftS })
  | setFillColor (c : BitVec 32) : SettingEffect s (.setFillColor c) { s with fillColor := c }
  | setFogColor (c : Rgba (BitVec 8)) : SettingEffect s (.setFogColor c) { s with fogColor := c }
  | setBlendColor (c : Rgba (BitVec 8)) : SettingEffect s (.setBlendColor c) { s with blendColor := c }
  | setPrimColor (o : PrimColorOps) : SettingEffect s (.setPrimColor o)
      { s with minLevel := o.minLevel, primLodFrac := o.lodFrac, primColor := o.color }
  | setEnvColor (c : Rgba (BitVec 8)) : SettingEffect s (.setEnvColor c) { s with envColor := c }
  | setCombine (c : Combine) : SettingEffect s (.setCombine c) { s with combine := c }
  | setTextureImage (o : ImageOps) : SettingEffect s (.setTextureImage o)
      { s with tiFormat := o.format, tiSize := o.size, tiWidth := heldWidth o.width, tiAddress := o.address }
  | setZImage (a : BitVec 24) : SettingEffect s (.setZImage a) { s with zbAddress := a }
  | setColorImage (o : ImageOps) : SettingEffect s (.setColorImage o)
      { s with fbFormat := o.format, fbSize := o.size, fbWidth := heldWidth o.width, fbAddress := o.address }

/-- What `exec` does, for every command that neither draws nor loads. -/
theorem settingEffect_of_exec {i : Instr} {s t : State} (hd : drawing i = false) (hl : loading i = false)
    (h : exec i s = .next t) : SettingEffect s i t := by
  cases i
  case triFill | triFillZ | triTex | triTexZ | triShade | triShadeZ | triShadeTex | triShadeTexZ | textureRectangle
      | textureRectangleFlip | fillRectangle => cases hd
  case loadTile | loadBlock | loadTlut => cases hl
  case syncFull | setKeyGb | setKeyR | setConvert | setScissor | setPrimDepth | setOtherModes | setTileSize | setTile
      | setFillColor | setFogColor | setBlendColor | setPrimColor | setEnvColor | setCombine | setTextureImage | setZImage
      | setColorImage =>
    cases h
    constructor
  all_goals
    cases h
    exact .noOp (by simp [noOps])

/-- Settles O8: a drawing or a load command changes only the fields its frame lists, and each of the other commands only those of
its row. -/
theorem registersOwned : Obligations.RegistersOwned := by
  intro i s t h
  cases hd : drawing i
  case true =>
    cases (exec_drawing hd s).symm.trans h
    rw [edgeWalk_frame]
    simp
  case false =>
    cases hl : loading i
    case true =>
      obtain ⟨u, hu, frame⟩ := exec_loading hl s
      cases hu.symm.trans h
      rw [frame]
      simp
    case false => cases settingEffect_of_exec hd hl h <;> simp

end Sys2Proof.Machine
end

section
/-! What no command writes, and what a refilled queue holds (40_command_processor.md R165 to R173, R179). -/

namespace Sys2Proof.Machine

/-- The fields that no handler writes and the command processor works with (40_command_processor.md R179, 20_memory.md R97). -/
structure ControlKept (s t : State) : Prop where
  cfg : t.cfg = s.cfg
  endc : t.endc = s.endc
  xbus : t.xbus = s.xbus
  xmem : t.xmem = s.xmem
  cmdq : t.cmdq = s.cmdq
  qCur : t.qCur = s.qCur
  call : t.call = s.call

/-- Every command answers a next state. -/
theorem exec_next (i : Instr) (s : State) : ∃ t, exec i s = .next t := by
  cases hd : drawing i
  case true => exact ⟨_, exec_drawing hd s⟩
  case false =>
    cases hl : loading i
    case true =>
      obtain ⟨t, ht, -⟩ := exec_loading hl s
      exact ⟨t, ht⟩
    case false =>
      obtain ⟨t, ht, -⟩ := exec_setting hd hl s
      exact ⟨t, ht⟩

/-- No command writes the queue, the call, the cursors, the configuration or the alternate source. -/
theorem exec_keeps_control {i : Instr} {s t : State} (h : exec i s = .next t) : ControlKept s t := by
  cases hd : drawing i
  case true =>
    cases (exec_drawing hd s).symm.trans h
    rw [edgeWalk_frame]
    constructor <;> rfl
  case false =>
    cases hl : loading i
    case true =>
      obtain ⟨u, hu, frame⟩ := exec_loading hl s
      cases hu.symm.trans h
      rw [frame]
      constructor <;> rfl
    case false => cases settingEffect_of_exec hd hl h <;> constructor <;> rfl

/-! ## The head of the queue -/

/-- No command is longer than 44 words, so what is not a whole command is shorter (30_encoding.md R122). -/
theorem length_lt_of_not_whole {ws : List Word} (h : wholeHead ws = false) : ws.length < 44 := by
  refine Nat.lt_of_not_le fun long => ?_
  have nonempty : ws ≠ [] := List.length_pos_iff.1 (by omega)
  have whole : wholeHead ws = true := wholeHead_iff.2 ⟨nonempty, Nat.le_trans (cmdLen_le _) long⟩
  rw [whole] at h
  cases h

/-- A residue of whole 64-bit words is shorter than the longest command by two words at least. -/
theorem length_le_of_residue {ws : List Word} (h : residueOk ws = true) (even : ws.length % 2 = 0) : ws.length ≤ 42 := by
  have := length_lt_of_not_whole (ws := ws) (by simpa [residueOk] using h)
  omega

@[simp] theorem length_fetchWords (s : State) (k n : Nat) : (fetchWords s k n).length = n := by simp [fetchWords]

theorem length_pending (s : State) : (pending s).length = s.cmdq.length - s.qCur := by simp [pending]

/-! ## The refilled queue -/

/-- The call whose next words are the pending words of `s` again, then those still to fetch (R170). -/
def refetch (s : State) (c : Call) : Call :=
  { c with widx := c.widx - (pending s).length, remaining := c.remaining + (pending s).length }

/-- What `refill` does: the first batch after the residue; nothing, when a whole command is ready or no word is left; or the
pending words fetched again with the next batch. -/
theorem refill_cases (s : State) (c : Call) :
    (c.fresh = true ∧ refill s c = fetchBatch s c s.cmdq) ∨
      (c.fresh = false ∧ (wholeHead (pending s) = true ∨ c.remaining = 0) ∧ refill s c = s) ∨
      (c.fresh = false ∧ wholeHead (pending s) = false ∧ c.remaining ≠ 0 ∧
        refill s c = fetchBatch { s with qCur := 0 } (refetch s c) []) := by
  unfold refill
  cases hf : c.fresh
  case true => simp
  case false =>
    cases hw : wholeHead (pending s)
    case true => simp
    case false =>
      by_cases hr : c.remaining = 0
      · simp [hr]
      · simp [hr, hf, refetch]

/-- A batch brings a whole command, unless it is the last of its range: `CMD_BATCH` is at least 44 (R173 (a)). -/
theorem whole_fetchBatch {s : State} {c : Call} {q : List Word} (hq : s.qCur ≤ q.length) (more : cmdBatch s.cfg < c.remaining) :
    wholeHead (pending (fetchBatch s c q)) = true := by
  refine Bool.of_not_eq_false fun h => ?_
  have short := length_lt_of_not_whole h
  have len : (pending (fetchBatch s c q)).length = q.length + cmdBatch s.cfg - s.qCur := by
    simp [length_pending, Nat.min_eq_right (Nat.le_of_lt more)]
  have batch : 44 ≤ cmdBatch s.cfg := Nat.le_add_right ..
  omega

/-- After `refill` a batch has been fetched, and the head of the queue is a whole command unless the range is used up. -/
theorem refill_call {s : State} {c : Call} (hc : s.call = some c) (hq : s.qCur ≤ s.cmdq.length) :
    ∃ d, (refill s c).call = some d ∧ d.fresh = false ∧ (wholeHead (pending (refill s c)) = true ∨ d.remaining = 0) := by
  have batch : ∀ (s : State) (c : Call) (q : List Word), s.qCur ≤ q.length →
      wholeHead (pending (fetchBatch s c q)) = true ∨ c.remaining - min c.remaining (cmdBatch s.cfg) = 0 := by
    intro s c q hq
    rcases Nat.lt_or_ge (cmdBatch s.cfg) c.remaining with more | last
    · exact .inl (whole_fetchBatch hq more)
    · exact .inr (by omega)
  rcases refill_cases s c with ⟨-, h⟩ | ⟨hf, hw, h⟩ | ⟨-, -, -, h⟩ <;> rw [h]
  · exact ⟨_, rfl, rfl, batch s c _ hq⟩
  · exact ⟨c, hc, hf, hw⟩
  · exact ⟨_, rfl, rfl, batch _ _ _ (Nat.zero_le _)⟩

end Sys2Proof.Machine
end

section
/-! Every step keeps the invariant (20_memory.md R80, R86, R95, R97, 10_state.md R26, R27, R36, R38). -/

namespace Sys2Proof.Machine

/-! ## Memories and registers -/

/-- The invariant without the queue: what commands can write and the command processor cannot. -/
structure StorageOk (s : State) : Prop where
  ram : ramWf s = true
  tmem : tmemWf s = true
  xmem : xmemWf s = true
  widths : widthsOk s = true
  primZ : primZOk s = true
  scratch : scratchWf s = true

theorem inv_iff (s : State) : Inv s ↔ StorageOk s ∧ queueOk s = true :=
  ⟨fun ⟨ram, tmem, xmem, widths, primZ, queue, scratch⟩ => ⟨⟨ram, tmem, xmem, widths, primZ, scratch⟩, queue⟩,
   fun ⟨⟨ram, tmem, xmem, widths, primZ, scratch⟩, queue⟩ => ⟨ram, tmem, xmem, widths, primZ, queue, scratch⟩⟩

theorem storageOk_edgeWalk {s : State} (h : StorageOk s) (ew : List Word) : StorageOk (edgeWalk s ew) where
  ram := by
    have cfg : (edgeWalk s ew).cfg = s.cfg := by rw [edgeWalk_frame]
    rw [ramWf, cfg]
    exact ramOk_edgeWalk h.ram ew
  tmem := by rw [edgeWalk_frame]; exact h.tmem
  xmem := by rw [edgeWalk_frame]; exact h.xmem
  widths := by rw [edgeWalk_frame]; exact h.widths
  primZ := by rw [edgeWalk_frame]; exact h.primZ
  scratch := scratchWf_edgeWalk h.scratch ew

theorem storageOk_setExtent {s : State} (h : StorageOk s) (o : TileSizeOps) : StorageOk (setExtent s o) := { h with }

theorem storageOk_loadSpans {s : State} (h : StorageOk s) (n : BitVec 3) (k : LoadKind) (ps : List LoadSpan)
    (rows : ∀ p ∈ ps, p.row.toNat < 1024) : StorageOk (loadSpans s n k ps) where
  ram := by rw [loadSpans_frame]; exact h.ram
  tmem := tmemWf_loadSpans h.tmem n k ps
  xmem := by rw [loadSpans_frame]; exact h.xmem
  widths := by rw [loadSpans_frame]; exact h.widths
  primZ := by rw [loadSpans_frame]; exact h.primZ
  scratch := scratchWf_loadSpans h.scratch n k ps rows

/-- A LOAD_TLUT of several rows stores its spans and may set the latch (44_load_commands.md R296). -/
theorem storageOk_storeSpans {s : State} (h : StorageOk s) (ps : List LoadSpan) (rows : ∀ p ∈ ps, p.row.toNat < 1024)
    (crashed : Bool) :
    StorageOk { s with scratch := { s.scratch with spans := storeSpans s.scratch.spans ps }, crashed := crashed } := by
  have bufs := h.scratch
  refine { h with scratch := ?_ }
  simp only [scratchWf, Bool.and_eq_true] at bufs ⊢
  exact ⟨spansWf_storeSpans ps rows bufs.1, bufs.2⟩

theorem storageOk_loading {i : Instr} {s t : State} (h : StorageOk s) (hl : loading i = true) (ht : exec i s = .next t) :
    StorageOk t := by
  cases i
  case loadTile o =>
    cases ht
    exact storageOk_loadSpans (storageOk_setExtent h o) _ _ _ (rectSpans_row o)
  case loadBlock o =>
    cases ht
    exact storageOk_loadSpans (storageOk_setExtent h o) _ _ _ (blockSpans_row o)
  case loadTlut o =>
    by_cases many : o.th.toNat / 4 > o.tl.toNat / 4
    · have ext := storageOk_setExtent h o
      rw [exec, execLoadTlut, if_pos many] at ht
      cases ht
      split
      · exact storageOk_storeSpans ext _ (rectSpans_row o) true
      · exact storageOk_storeSpans ext _ (rectSpans_row o) (setExtent s o).crashed
    · rw [exec, execLoadTlut, if_neg many] at ht
      cases ht
      exact storageOk_loadSpans (storageOk_setExtent h o) _ _ _ (rectSpans_row o)
  all_goals cases hl

/-- A width as held is the 10-bit operand plus 1 (10_state.md R38). -/
theorem toNat_heldWidth (w : BitVec 10) : (heldWidth w).toNat = w.toNat + 1 := by
  have := w.isLt
  simp [heldWidth]
  omega

/-- SET_PRIM_DEPTH writes bits 30 to 16 only (10_state.md R36). -/
theorem primZ_mask (z : BitVec 15) : (0#1 ++ z ++ 0#16) &&& 0x8000ffff#32 = 0 := by
  have mask : 0x8000ffff#32 = 1#1 ++ 0#15 ++ 0xffff#16 := rfl
  rw [mask, BitVec.and_append, BitVec.and_append]
  simp

theorem storageOk_setting {i : Instr} {s t : State} (h : StorageOk s) (e : SettingEffect s i t) : StorageOk t := by
  cases e
  case setPrimDepth o => exact { h with primZ := by simp [primZOk, primZ_mask] }
  case setTextureImage o =>
    have widths := h.widths
    have := o.width.isLt
    simp only [widthsOk, Bool.and_eq_true, decide_eq_true_eq] at widths
    exact { h with widths := by simp [widthsOk, toNat_heldWidth]; omega }
  case setColorImage o =>
    have widths := h.widths
    have := o.width.isLt
    simp only [widthsOk, Bool.and_eq_true, decide_eq_true_eq] at widths
    exact { h with widths := by simp [widthsOk, toNat_heldWidth]; omega }
  all_goals exact { h with }

/-- Every command keeps the memories and the registers in their shapes. -/
theorem storageOk_exec {i : Instr} {s t : State} (h : StorageOk s) (ht : exec i s = .next t) : StorageOk t := by
  cases hd : drawing i
  case true =>
    cases (exec_drawing hd s).symm.trans ht
    exact storageOk_edgeWalk h _
  case false =>
    cases hl : loading i
    case true => exact storageOk_loading h hl ht
    case false => exact storageOk_setting h (settingEffect_of_exec hd hl ht)

theorem storageOk_refill {s : State} (h : StorageOk s) (c : Call) : StorageOk (refill s c) := by
  rw [refill_frame]
  exact { h with }

theorem storageOk_finishCall {s : State} (h : StorageOk s) : StorageOk (finishCall s) := { h with }

theorem storageOk_advance {s : State} (h : StorageOk s) (len : Nat) : StorageOk (advance s len) := { h with }

/-! ## The queue -/

/-- `queueOk` between calls. -/
theorem queueOk_of_idle {s : State} (hn : s.call = none) :
    queueOk s = true ↔ s.cmdq.length ≤ 42 + cmdBatch s.cfg ∧ s.cmdq.length % 2 = 0 ∧ s.qCur = 0 ∧
      residueOk s.cmdq = true := by
  simp only [queueOk, hn, Bool.and_eq_true, decide_eq_true_eq]
  constructor
  · rintro ⟨⟨⟨-, len⟩, -⟩, ⟨even, cur⟩, res⟩
    exact ⟨len, even, cur, res⟩
  · rintro ⟨len, even, cur, res⟩
    exact ⟨⟨⟨by omega, len⟩, by omega⟩, ⟨even, cur⟩, res⟩

/-- `queueOk` in a call. -/
theorem queueOk_of_call {s : State} {c : Call} (hc : s.call = some c) :
    queueOk s = true ↔ s.qCur ≤ s.cmdq.length ∧ s.cmdq.length ≤ 42 + cmdBatch s.cfg ∧ s.qCur % 2 = 0 ∧
      (s.cmdq.length + c.remaining) % 2 = 0 ∧
      (c.fresh = true → s.cmdq.length % 2 = 0 ∧ s.qCur = 0 ∧ residueOk s.cmdq = true) := by
  cases hf : c.fresh <;> simp [queueOk, hc, hf, and_assoc]

/-- A batch appended to a queue `q` of at most 42 words keeps the queue in order. -/
theorem queueOk_fetchBatch {s : State} {c : Call} {q : List Word} (hq : s.qCur = 0) (short : q.length ≤ 42)
    (even : (q.length + c.remaining) % 2 = 0) : queueOk (fetchBatch s c q) = true := by
  refine (queueOk_of_call (fetchBatch_call s c q)).2 ?_
  simp only [fetchBatch_cmdq, fetchBatch_qCur, List.length_append, length_fetchWords, fetchBatch_cfg, hq]
  refine ⟨by omega, by omega, trivial, by omega, fun h => ?_⟩
  cases h

theorem queueOk_refill {s : State} {c : Call} (hc : s.call = some c) (h : queueOk s = true) :
    queueOk (refill s c) = true := by
  obtain ⟨cur, len, evenCur, even, fresh⟩ := (queueOk_of_call hc).1 h
  rcases refill_cases s c with ⟨hf, hr⟩ | ⟨-, -, hr⟩ | ⟨-, hw, -, hr⟩ <;> rw [hr]
  · obtain ⟨evenLen, cur0, res⟩ := fresh hf
    exact queueOk_fetchBatch cur0 (length_le_of_residue res evenLen) even
  · exact h
  · refine queueOk_fetchBatch rfl (Nat.zero_le _) ?_
    simp only [refetch, length_pending, List.length_nil]
    omega

/-- A call ends with a residue of whole 64-bit words: what is left is no whole command, and no word remains to fetch. -/
theorem queueOk_finishCall_refill {s : State} {c : Call} (hc : s.call = some c) (h : queueOk s = true)
    (left : wholeHead (pending (refill s c)) = false) : queueOk (finishCall (refill s c)) = true := by
  have ready := queueOk_refill hc h
  obtain ⟨d, hd, -, last⟩ := refill_call hc ((queueOk_of_call hc).1 h).1
  obtain ⟨cur, len, evenCur, even, -⟩ := (queueOk_of_call hd).1 ready
  have none : d.remaining = 0 := by simpa [left] using last
  cases hcr : (refill s c).crashed
  case true => exact queueOk_idle (by simp [hcr]) rfl rfl
  case false =>
    refine (queueOk_of_idle rfl).2 ?_
    simp only [finishCall_cmdq, finishCall_cfg, finishCall_qCur, hcr, Bool.false_eq_true, if_false, length_pending]
    exact ⟨by omega, by omega, trivial, by simp [residueOk, left]⟩

/-- A whole command executed and passed keeps the queue in order. -/
theorem queueOk_advance_exec {s t : State} {d : Call} {i : Instr} (hd : s.call = some d) (hf : d.fresh = false)
    (h : queueOk s = true) (fits : cmdLen i.op ≤ (pending s).length) (ht : exec i s = .next t) :
    queueOk (advance t (cmdLen i.op)) = true := by
  obtain ⟨cur, len, evenCur, even, -⟩ := (queueOk_of_call hd).1 h
  have kept := exec_keeps_control ht
  have evenOp := cmdLen_even i.op
  rw [length_pending] at fits
  refine (queueOk_of_call (s := advance t (cmdLen i.op)) (kept.call.trans hd)).2 ?_
  simp only [advance_cmdq, advance_qCur, advance_cfg, kept.cmdq, kept.qCur, kept.cfg, hf]
  exact ⟨by omega, len, by omega, even, fun h => by cases h⟩

/-- Settles O17: the storage is kept by what each command may write, the queue by what a refill brings and a command takes. -/
theorem invStep : Obligations.InvStep := by
  intro s t hs hst
  obtain ⟨stored, queued⟩ := (inv_iff s).1 hs
  rcases step_cases hst with ⟨-, rfl⟩ | ⟨c, hc, ended⟩
  · exact hs
  refine (inv_iff t).2 ?_
  rcases ended with ⟨hcr, rfl⟩ | ⟨-, left, rfl⟩ | ⟨-, i, u, whole, hdec, hexec, rfl⟩
  · exact ⟨storageOk_finishCall stored, queueOk_idle (by simp [hcr]) rfl rfl⟩
  · exact ⟨storageOk_finishCall (storageOk_refill stored c), queueOk_finishCall_refill hc queued left⟩
  · obtain ⟨d, hd, hf, -⟩ := refill_call hc ((queueOk_of_call hc).1 queued).1
    obtain ⟨j, hj, hop, -⟩ := dispatchHead_whole whole
    cases hdec.symm.trans hj
    have fits : cmdLen i.op ≤ (pending (refill s c)).length := hop ▸ (wholeHead_iff.1 whole).2
    exact ⟨storageOk_advance (storageOk_exec (storageOk_refill stored c) hexec) _,
      queueOk_advance_exec hd hf (queueOk_refill hc queued) fits hexec⟩

end Sys2Proof.Machine
end

section
/-! A run depends only on the words supplied, not on batches or calls (40_command_processor.md R100, R165, R170, R174): the
machine in a call tracks the dispatch, in order, of one word sequence. -/

namespace Sys2Proof

/-- The words of the first of two sequences are those of the sequences joined. -/
theorem getD_append_left {ws : List Word} (more : List Word) {k : Nat} (h : k < ws.length) :
    (ws ++ more).getD k 0 = ws.getD k 0 := by
  rw [List.getD_eq_getElem?_getD, List.getD_eq_getElem?_getD, List.getElem?_append_left h]

/-- A command is decoded from its own words only (30_encoding.md R122). -/
theorem decodeOp_own_words (op : BitVec 6) (w : Nat → Word) :
    decodeOp op w = decodeOp op (fun k => if k < cmdLen op then w k else 0) := by
  unfold decodeOp cmdLen
  split <;> simp only [*] <;> rfl

/-- What follows a whole command changes nothing of how it decodes, and is left over. -/
theorem decodeWords_append {ws : List Word} (more : List Word) (h : cmdLen (opcodeOf (ws.getD 0 0)) ≤ ws.length) :
    ∃ i, i.op = opcodeOf (ws.getD 0 0) ∧ decodeWords ws = .ok (i, ws.drop (cmdLen i.op)) ∧
      decodeWords (ws ++ more) = .ok (i, (ws ++ more).drop (cmdLen i.op)) := by
  have head : (ws ++ more).getD 0 0 = ws.getD 0 0 :=
    getD_append_left more (by have := cmdLen_pos (opcodeOf (ws.getD 0 0)); omega)
  obtain ⟨i, hi, hop⟩ := decodeOp_some (opcodeOf (ws.getD 0 0)) (fun k => ws.getD k 0)
  have hi' : decodeOp (opcodeOf (ws.getD 0 0)) (fun k => (ws ++ more).getD k 0) = some i := by
    rw [← hi, decodeOp_own_words, decodeOp_own_words _ fun k => ws.getD k 0]
    congr 1
    funext k
    split
    · exact getD_append_left more (by omega)
    · rfl
  have fits : ¬ (ws ++ more).length < cmdLen (opcodeOf (ws.getD 0 0)) := by rw [List.length_append]; omega
  exact ⟨i, hop, by simp only [decodeWords, if_neg (Nat.not_lt.2 h), hi, hop],
    by simp only [decodeWords, head, if_neg fits, hi', hop]⟩

end Sys2Proof

namespace Sys2Proof.Machine

/-! ## The words of a range -/

theorem take_fetchWords (s : State) (k : Nat) {n m : Nat} (h : n ≤ m) : (fetchWords s k m).take n = fetchWords s k n := by
  simp [fetchWords, ← List.map_take, List.take_range, Nat.min_eq_left h]

theorem drop_fetchWords (s : State) (k m a : Nat) : (fetchWords s k m).drop a = fetchWords s (k + a) (m - a) := by
  apply List.ext_getElem
  · simp
  · intro j _ _
    simp [fetchWords, Nat.add_assoc]

@[simp] theorem fetchWords_withQueue (s : State) (q : List Word) (n : Nat) (c : Option Call) (k m : Nat) :
    fetchWords (s.withQueue q n c) k m = fetchWords s k m := rfl

@[simp] theorem pending_withQueue (s : State) (q : List Word) (n : Nat) (c : Option Call) :
    pending (s.withQueue q n c) = q.drop n := rfl

theorem wholeHead_append {ws : List Word} (more : List Word) (h : wholeHead ws = true) : wholeHead (ws ++ more) = true := by
  obtain ⟨ne, fits⟩ := wholeHead_iff.1 h
  refine wholeHead_iff.2 ⟨List.append_ne_nil_of_left_ne_nil ne more, ?_⟩
  rw [getD_append_left more (List.length_pos_iff.2 ne), List.length_append]
  omega

/-! ## Dispatching a word sequence -/

theorem ControlKept.refl (s : State) : ControlKept s s := ⟨rfl, rfl, rfl, rfl, rfl, rfl, rfl⟩

theorem ControlKept.trans {s t u : State} (h : ControlKept s t) (g : ControlKept t u) : ControlKept s u :=
  ⟨g.cfg.trans h.cfg, g.endc.trans h.endc, g.xbus.trans h.xbus, g.xmem.trans h.xmem, g.cmdq.trans h.cmdq,
    g.qCur.trans h.qCur, g.call.trans h.call⟩

/-- Nothing is dispatched once the core has crashed, and nothing of what is not a whole command. -/
theorem dispatchAll_stops {u : State} {ws : List Word} (h : u.crashed = true ∨ wholeHead ws = false) (n : Nat) :
    dispatchAll n ws u = (u, ws) := by
  cases n with
  | zero => rfl
  | succ n =>
    rcases h with h | h
    · simp [dispatchAll, h]
    · simp [dispatchAll, h]

/-- A whole command is dispatched first, then the words after it. -/
theorem dispatchAll_whole {u v : State} {ws : List Word} {i : Instr} (hcr : u.crashed = false) (hw : wholeHead ws = true)
    (hi : decodeWords ws = .ok (i, ws.drop (cmdLen i.op))) (hv : exec i u = .next v) (n : Nat) :
    dispatchAll (n + 1) ws u = dispatchAll n (ws.drop (cmdLen i.op)) v := by
  simp [dispatchAll, hcr, hw, hi, hv]

theorem dispatchAll_keeps_control (n : Nat) (ws : List Word) (u : State) : ControlKept u (dispatchAll n ws u).1 := by
  induction n generalizing ws u with
  | zero => exact .refl u
  | succ n ih =>
    by_cases stop : u.crashed = true ∨ wholeHead ws = false
    · rw [dispatchAll_stops stop]
      exact .refl u
    · obtain ⟨hcr, hw⟩ : u.crashed = false ∧ wholeHead ws = true := by simpa using stop
      obtain ⟨i, hi, -⟩ := decodeWords_whole (wholeHead_iff.1 hw).2
      obtain ⟨v, hv⟩ := exec_next i u
      rw [dispatchAll_whole hcr hw hi hv]
      exact (exec_keeps_control hv).trans (ih _ v)

/-- With the alternate source no command changes what the words of a range read. -/
theorem fetchWords_dispatchAll_xbus {s : State} (hx : s.xbus = true) (n : Nat) (ws : List Word) (k m : Nat) :
    fetchWords (dispatchAll n ws s).1 k m = fetchWords s k m := by
  have kept := dispatchAll_keeps_control n ws s
  simp only [fetchWords, fetchWord, kept.xbus, hx, if_true, kept.xmem]

/-! ## The machine in a call -/

/-- A call over the `len` words from word index `first` on, of which `p` have been fetched. -/
def callAt (first len p : Nat) (fresh : Bool) : Call := { widx := first + p, remaining := len - p, fresh := fresh }

/-- The words `ws` before a machine in a call over the words `W`, `p` of them fetched, whose queue is `q` with `n` words passed:
first those of the queue, then those to fetch. Unless the range is used up, the queue ends in at least 44 of its words (R170). -/
structure WordsBefore (W : List Word) (p : Nat) (fresh : Bool) (q : List Word) (n : Nat) (ws : List Word) : Prop where
  fetched : p ≤ W.length
  passed : n ≤ q.length
  words : ws = q.drop n ++ W.drop p
  start : fresh = true → p = 0 ∧ n = 0
  batch : fresh = false → p < W.length → ∃ l, 44 ≤ l.length ∧ l <:+ q ∧ l <:+ W.take p

section
variable {first p n : Nat} {W ws q : List Word} {fresh : Bool} {u : State}

/-- A batch fetched from position `a` of the range. -/
theorem fetchBatch_callAt (reads : fetchWords u first W.length = W) {a : Nat} (ha : a ≤ W.length) (q q' : List Word)
    (c : Option Call) (f : Bool) :
    ∃ p' q'', fetchBatch (u.withQueue q' 0 c) (callAt first W.length a f) q =
        u.withQueue q'' 0 (some (callAt first W.length p' false)) ∧ WordsBefore W p' false q'' 0 (q ++ W.drop a) := by
  let n := min (W.length - a) (cmdBatch u.cfg)
  have batch : 44 ≤ cmdBatch u.cfg := Nat.le_add_right ..
  have got : fetchWords u (first + a) n = (W.drop a).take n := by
    conv => rhs; rw [← reads, drop_fetchWords]
    exact (take_fetchWords u (first + a) (Nat.min_le_left ..)).symm
  refine ⟨a + n, q ++ fetchWords u (first + a) n, ?state,
    ⟨by omega, Nat.zero_le _, ?words, fun h => (by cases h), fun _ more => ?batch⟩⟩
  case state =>
    simp only [fetchBatch, State.withQueue, callAt, n, Nat.add_assoc, Nat.sub_sub]
    rfl
  case words =>
    rw [got, List.drop_zero, List.append_assoc, ← List.drop_drop, List.take_append_drop]
  case batch =>
    refine ⟨fetchWords u (first + a) n, by rw [length_fetchWords]; omega, ⟨q, rfl⟩, ⟨W.take a, ?_⟩⟩
    rw [got, List.take_add]

/-- Pending words that are no whole command, with words still to fetch, are the last words fetched (R170). -/
theorem WordsBefore.pending_suffix (h : WordsBefore W p false q n ws) (hw : wholeHead (q.drop n) = false) (more : p < W.length) :
    q.drop n <:+ W.take p := by
  obtain ⟨l, len, inQueue, inRange⟩ := h.batch rfl more
  have short := length_lt_of_not_whole hw
  exact (List.suffix_of_suffix_length_le (List.drop_suffix n q) inQueue (by omega)).trans inRange

/-- The range from the last words fetched on. -/
theorem drop_of_suffix_take {l : List Word} (hp : p ≤ W.length) (h : l <:+ W.take p) :
    W.drop (p - l.length) = l ++ W.drop p := by
  obtain ⟨pre, hpre⟩ := h
  have len : p = pre.length + l.length := by
    rw [← List.length_append, hpre, List.length_take, Nat.min_eq_left hp]
  calc W.drop (p - l.length) = (pre ++ (l ++ W.drop p)).drop (p - l.length) := by
        rw [← List.append_assoc, hpre, List.take_append_drop]
    _ = l ++ W.drop p := List.drop_left' (by omega)

/-- `refill` leaves the words before the machine as they are: what it drops it fetches again. -/
theorem refill_callAt (h : WordsBefore W p fresh q n ws) (reads : fetchWords u first W.length = W) :
    ∃ p' q' n', refill (u.withQueue q n (some (callAt first W.length p fresh))) (callAt first W.length p fresh) =
        u.withQueue q' n' (some (callAt first W.length p' false)) ∧ WordsBefore W p' false q' n' ws := by
  rcases refill_cases (u.withQueue q n (some (callAt first W.length p fresh))) (callAt first W.length p fresh) with
    ⟨hf, hr⟩ | ⟨hf, -, hr⟩ | ⟨hf, hw, more, hr⟩ <;> rw [hr]
  · obtain ⟨rfl, rfl⟩ := h.start hf
    obtain ⟨p', q', hs, hb⟩ := fetchBatch_callAt reads (Nat.zero_le _) q q (some (callAt first W.length 0 fresh)) fresh
    exact ⟨p', q', 0, hs, by rw [h.words]; exact hb⟩
  · cases hf
    exact ⟨p, q, n, rfl, h⟩
  · cases hf
    have suffix := h.pending_suffix hw (Nat.lt_of_sub_ne_zero more)
    have back : (q.drop n).length ≤ p := Nat.le_trans suffix.length_le (List.length_take_le ..)
    have fetched := h.fetched
    have call : refetch (u.withQueue q n (some (callAt first W.length p false))) (callAt first W.length p false) =
        callAt first W.length (p - (q.drop n).length) false := by
      simp only [refetch, callAt, pending_withQueue, Call.mk.injEq, and_true]
      omega
    obtain ⟨p', q', hs, hb⟩ := fetchBatch_callAt reads (show p - (q.drop n).length ≤ W.length by omega) [] q
      (some (callAt first W.length p false)) false
    rw [List.nil_append, drop_of_suffix_take fetched suffix, ← h.words] at hb
    exact ⟨p', q', 0, by rw [call]; exact hs, hb⟩

/-- After `refill` the head of the queue is a whole command exactly if the head of the words before the machine is; if it is not,
the queue holds all of them. -/
theorem refill_callAt_ready (h : WordsBefore W p fresh q n ws) (reads : fetchWords u first W.length = W) :
    ∃ p' q' n', refill (u.withQueue q n (some (callAt first W.length p fresh))) (callAt first W.length p fresh) =
        u.withQueue q' n' (some (callAt first W.length p' false)) ∧ WordsBefore W p' false q' n' ws ∧
        wholeHead (q'.drop n') = wholeHead ws ∧ (wholeHead ws = false → ws = q'.drop n') := by
  obtain ⟨p', q', n', hs, hb⟩ := refill_callAt h reads
  obtain ⟨d, hd, -, ready⟩ := refill_call (s := u.withQueue q n (some (callAt first W.length p fresh))) rfl h.passed
  rw [hs] at hd ready
  cases hd
  refine ⟨p', q', n', hs, hb, ?_⟩
  rcases ready with whole | last
  · have wholeWs : wholeHead ws = true := hb.words ▸ wholeHead_append _ whole
    exact ⟨whole.trans wholeWs.symm, fun left => by simp [left] at wholeWs⟩
  · have all : ws = q'.drop n' := by
      rw [hb.words, List.drop_of_length_le (Nat.le_of_sub_eq_zero last), List.append_nil]
    exact ⟨all ▸ rfl, fun _ => all⟩

/-- The state in which a call ends that has left `r`: words left over are kept unless the core has crashed (R168, R172). -/
def endOf (r : State × List Word) : State :=
  { r.1 with cmdq := if r.1.crashed then [] else r.2, qCur := 0, current := r.1.endc, call := none }

/-- The call ends where the dispatch in order does. -/
theorem step_callAt_end (h : WordsBefore W p fresh q n ws) (reads : fetchWords u first W.length = W)
    (stop : u.crashed = true ∨ wholeHead ws = false) :
    step (u.withQueue q n (some (callAt first W.length p fresh))) = .next (endOf (u, ws)) := by
  show stepCall (u.withQueue q n (some (callAt first W.length p fresh))) (callAt first W.length p fresh) = _
  cases hcr : u.crashed
  case true => simp [stepCall, hcr, finishCall, endOf, State.withQueue]
  case false =>
    have left : wholeHead ws = false := by simpa [hcr] using stop
    obtain ⟨p', q', n', hs, -, same, all⟩ := refill_callAt_ready h reads
    have ended := dispatchHead_end (s := u.withQueue q' n' (some (callAt first W.length p' false))) (same.trans left)
    rw [stepCall, withQueue_crashed, hcr, if_neg Bool.false_ne_true, hs, ended]
    simp [finishCall, endOf, hcr, State.withQueue, pending, all left]

/-- One step is one command of the dispatch in order. -/
theorem step_callAt_command (h : WordsBefore W p fresh q n ws) (reads : fetchWords u first W.length = W)
    (hcr : u.crashed = false) (hw : wholeHead ws = true) :
    ∃ i v p' q' n', decodeWords ws = .ok (i, ws.drop (cmdLen i.op)) ∧ exec i u = .next v ∧
      step (u.withQueue q n (some (callAt first W.length p fresh))) =
        .next (v.withQueue q' n' (some (callAt first W.length p' false))) ∧
      WordsBefore W p' false q' n' (ws.drop (cmdLen i.op)) := by
  obtain ⟨p', q', n', hs, hb, same, -⟩ := refill_callAt_ready h reads
  have whole : wholeHead (q'.drop n') = true := same.trans hw
  obtain ⟨i, hop, hi, hi'⟩ := decodeWords_append (W.drop p') (wholeHead_iff.1 whole).2
  rw [← hb.words] at hi'
  obtain ⟨v, hv⟩ := exec_next i u
  have fits : cmdLen i.op ≤ (q'.drop n').length := hop ▸ (wholeHead_iff.1 whole).2
  refine ⟨i, v, p', q', n' + cmdLen i.op, hi', hv, ?step, hb.fetched, ?passed, ?words, fun hf => (by cases hf), hb.batch⟩
  case step =>
    show stepCall (u.withQueue q n (some (callAt first W.length p fresh))) (callAt first W.length p fresh) = _
    rw [stepCall, withQueue_crashed, hcr, if_neg Bool.false_ne_true, hs]
    simp only [dispatchHead, pending_withQueue, whole, if_true, hi, exec_withQueue, hv]
    rfl
  case passed =>
    rw [List.length_drop] at fits
    have := hb.passed
    omega
  case words => rw [hb.words, List.drop_append_of_le_length fits, List.drop_drop]

end

/-! ## The whole run -/

theorem stepsToIdle_of_idle {s : State} (h : s.call = none) (n : Nat) : stepsToIdle n s = .next s := by
  cases n <;> simp [stepsToIdle, h]

theorem stepsToIdle_of_step {s t : State} {c : Call} (hc : s.call = some c) (h : step s = .next t) (n : Nat) :
    stepsToIdle (n + 1) s = stepsToIdle n t := by
  simp [stepsToIdle, hc, h]

/-- One step for each command left and one for the end of the call bring the machine to where the dispatch in order ends. -/
theorem stepsToIdle_callAt {first p n : Nat} {W ws q : List Word} {fresh : Bool} {u : State} {fuel : Nat}
    (h : WordsBefore W p fresh q n ws) (reads : ∀ k, fetchWords (dispatchAll k ws u).1 first W.length = W)
    (enough : ws.length ≤ fuel) :
    stepsToIdle (fuel + 1) (u.withQueue q n (some (callAt first W.length p fresh))) =
      .next (endOf (dispatchAll fuel ws u)) := by
  induction fuel generalizing p n ws q fresh u with
  | zero =>
    have nothing : ws = [] := List.length_eq_zero_iff.1 (by omega)
    exact stepsToIdle_of_step rfl (step_callAt_end h (reads 0) (.inr (by simp [nothing, wholeHead]))) 0
  | succ fuel ih =>
    have now : fetchWords u first W.length = W := reads 0
    by_cases stop : u.crashed = true ∨ wholeHead ws = false
    · rw [stepsToIdle_of_step rfl (step_callAt_end h now stop), stepsToIdle_of_idle rfl, dispatchAll_stops stop]
    · obtain ⟨hcr, hw⟩ : u.crashed = false ∧ wholeHead ws = true := by simpa using stop
      obtain ⟨i, v, p', q', n', hi, hv, hs, hb⟩ := step_callAt_command h now hcr hw
      have after : ∀ k, dispatchAll (k + 1) ws u = dispatchAll k (ws.drop (cmdLen i.op)) v := dispatchAll_whole hcr hw hi hv
      have shorter : (ws.drop (cmdLen i.op)).length ≤ fuel := by
        have := cmdLen_pos i.op
        rw [List.length_drop]
        omega
      rw [stepsToIdle_of_step rfl hs, after]
      exact ih hb (fun k => after k ▸ reads (k + 1)) shorter

/-- A call over a range that is not empty (R165): cursors are taken in 64-bit units (20_memory.md R90). -/
theorem startCall_range {s : State} (h : s.current.toNat / 8 < s.endc.toNat / 8) :
    startCall s = s.withQueue s.cmdq s.qCur
      (some (callAt (s.current.toNat / 8 * 2) ((s.endc.toNat / 8 - s.current.toNat / 8) * 2) 0 true)) := by
  have nonempty : ¬ aligned s.endc ≤ aligned s.current := by
    simp only [aligned]
    omega
  have widx : aligned s.current / 4 = s.current.toNat / 8 * 2 := by
    simp only [aligned]
    omega
  have count : (aligned s.endc - aligned s.current) / 4 = (s.endc.toNat / 8 - s.current.toNat / 8) * 2 := by
    simp only [aligned]
    omega
  rw [startCall, if_neg nonempty, widx, count]
  rfl

/-- Settles O15: before each step the residue, the words of the queue and those still to fetch are the words left of one sequence,
whatever the batches are. -/
theorem splitIndependence : Obligations.SplitIndependence := by
  intro s _ cur0 nonempty first count ws proviso r
  have len : (fetchWords s first count).length = count := length_fetchWords ..
  have reads : ∀ k, fetchWords (dispatchAll k ws s).1 first (fetchWords s first count).length = fetchWords s first count := by
    intro k
    rw [len]
    rcases proviso with hx | same
    · exact fetchWords_dispatchAll_xbus hx ..
    · exact same k
  have start : startCall s = s.withQueue s.cmdq 0 (some (callAt first (fetchWords s first count).length 0 true)) := by
    rw [startCall_range nonempty, cur0, len]
  have before : WordsBefore (fetchWords s first count) 0 true s.cmdq 0 ws :=
    ⟨Nat.zero_le _, Nat.zero_le _, rfl, fun _ => ⟨rfl, rfl⟩, fun h => by cases h⟩
  have fuel : s.cmdq.length + (aligned s.endc - aligned s.current) / 4 = ws.length := by
    rw [List.length_append, len]
    simp only [aligned, count]
    omega
  have endc : r.1.endc = s.endc := (dispatchAll_keeps_control ws.length ws s).endc
  rw [processCommandList, start, fuel, stepsToIdle_callAt before reads (Nat.le_refl _), ← endc]
  rfl

end Sys2Proof.Machine
end

section
/-! Main memory, its hidden bits and texture memory through the model's reads and writes (20_memory.md R82 to R89, R95, R97). -/

namespace Sys2Proof

/-- The four bytes of a word, most significant first, join to the word (20_memory.md R89). -/
theorem bytes_join (v : Word) :
    v.extractLsb' 24 8 ++ v.extractLsb' 16 8 ++ v.extractLsb' 8 8 ++ v.extractLsb' 0 8 = v := by
  rw [BitVec.extractLsb'_append_extractLsb'_eq_extractLsb' (by omega),
    BitVec.extractLsb'_append_extractLsb'_eq_extractLsb' (by omega),
    BitVec.extractLsb'_append_extractLsb'_eq_extractLsb' (by omega)]
  exact extract_self v

end Sys2Proof

namespace Sys2Proof.Machine

/-! ## Indices -/

theorem index32_natCast (u : Nat) : index32 (u : Int) = u % 2 ^ 32 := by
  simp only [index32, zext]
  omega

theorem memSize_le {cfg : Config} (h : cfg.memBits ≤ 32) : memSize cfg ≤ 2 ^ 32 := Nat.pow_le_pow_right (by omega) h

/-- An index below a bound within the 32-bit range is itself. -/
theorem index32_of_lt {u n : Nat} (h : u < n) (hn : n ≤ 2 ^ 32) : index32 (u : Int) = u := by
  rw [index32_natCast]
  exact Nat.mod_eq_of_lt (by omega)

/-- A bound on the reduced index in the spec's terms (20_memory.md R82). -/
theorem not_index32_lt {a : Int} {n : Nat} (h : (n : Int) ≤ a % 2 ^ 32) : ¬ index32 a < n := by
  simp only [index32, zext]
  omega

/-! ## Reads and writes in range -/

section
variable {cfg : Config} {ram : Ram} {i : Int}

theorem rd8_in (h : index32 i < memSize cfg) : rd8 cfg ram i = memByte ram (index32 i) := if_pos h
theorem wr16_in (h : index32 i < memSize cfg / 2) (v : Half) : wr16 cfg ram i v = putHalf ram (index32 i) v := if_pos h
theorem rd32_in (h : index32 i < memSize cfg / 4) :
    rd32 cfg ram i = memByte ram (4 * index32 i) ++ memByte ram (4 * index32 i + 1) ++ memByte ram (4 * index32 i + 2) ++
      memByte ram (4 * index32 i + 3) := if_pos h
theorem wr32_in (h : index32 i < memSize cfg / 4) (v : Word) : wr32 cfg ram i v = putWord ram (index32 i) v := if_pos h
theorem pairWr32_in (h : index32 i < memSize cfg / 4) (v : Word) (x y : BitVec 2) :
    pairWr32 cfg ram i v x y =
      setHid cfg (setHid cfg (putWord ram (index32 i) v) (2 * index32 i) x) (2 * index32 i + 1) y := if_pos h
theorem pairRd16_in (h : index32 i < memSize cfg / 2) :
    pairRd16 cfg ram i =
      (memByte ram (2 * index32 i) ++ memByte ram (2 * index32 i + 1), hidEntry cfg ram (index32 i)) := if_pos h

theorem rd8_wr8 (h : ramOk cfg ram = true) (hi : index32 i < memSize cfg) (v : Byte) : rd8 cfg (wr8 cfg ram i v) i = v := by
  rw [rd8_in hi, memByte_wr8 h, if_pos ⟨hi, rfl⟩]

/-- The two bytes of a halfword just written, most significant first. -/
theorem bytes_putHalf (h : ramOk cfg ram = true) {u : Nat} (hu : u < memSize cfg / 2) (v : Half) :
    memByte (putHalf ram u v) (2 * u) = v.extractLsb' 8 8 ∧ memByte (putHalf ram u v) (2 * u + 1) = v.extractLsb' 0 8 := by
  simp [memByte_putHalf h u v hu]

/-- The four bytes of a word just written, most significant first. -/
theorem bytes_putWord (h : ramOk cfg ram = true) {u : Nat} (hu : u < memSize cfg / 4) (v : Word) :
    memByte (putWord ram u v) (4 * u) = v.extractLsb' 24 8 ∧ memByte (putWord ram u v) (4 * u + 1) = v.extractLsb' 16 8 ∧
      memByte (putWord ram u v) (4 * u + 2) = v.extractLsb' 8 8 ∧
      memByte (putWord ram u v) (4 * u + 3) = v.extractLsb' 0 8 := by
  simp [memByte_putWord h u v hu]

theorem rd32_wr32 (h : ramOk cfg ram = true) (hi : index32 i < memSize cfg / 4) (v : Word) :
    rd32 cfg (wr32 cfg ram i v) i = v := by
  obtain ⟨b0, b1, b2, b3⟩ := bytes_putWord h hi v
  rw [rd32_in hi, wr32_in hi, b0, b1, b2, b3]
  exact bytes_join v

end

/-- Settles O47: in range by what each write does to every byte, out of range by the bounds test. -/
theorem memoryReadWrite : Obligations.MemoryReadWrite := by
  intro cfg ram ok bits
  have size := memSize_le bits
  refine ⟨fun u v hu => ?byte, fun u v hu => ?half, fun u v hu => ?word, fun a v8 v16 v32 => ?out⟩
  case byte =>
    have idx : index32 (u : Int) = u := index32_of_lt hu size
    refine ⟨rd8_wr8 ok (by omega) v, fun a ha => ?_⟩
    rw [memByte_wr8 ok, idx, if_neg fun h => ha h.2]
  case half =>
    have idx : index32 (u : Int) = u := index32_of_lt hu (by omega)
    obtain ⟨b0, b1⟩ := bytes_putHalf ok hu v
    refine ⟨rd16_wr16 ok u v (by omega), ?_⟩
    rw [wr16_in (by omega), idx]
    refine ⟨b0, b1, fun a ha => ?_⟩
    rw [memByte_putHalf ok u v hu, if_neg (by omega), if_neg (by omega)]
  case word =>
    have idx : index32 (u : Int) = u := index32_of_lt hu (by omega)
    obtain ⟨b0, b1, b2, b3⟩ := bytes_putWord ok hu v
    refine ⟨rd32_wr32 ok (by omega) v, ?_⟩
    rw [wr32_in (by omega), idx]
    refine ⟨b0, b1, b2, b3, fun a ha => ?_⟩
    rw [memByte_putWord ok u v hu, if_neg (by omega), if_neg (by omega), if_neg (by omega), if_neg (by omega)]
  case out =>
    exact ⟨fun h => ⟨if_neg (not_index32_lt h), if_neg (not_index32_lt h)⟩,
      fun h => ⟨if_neg (not_index32_lt h), if_neg (not_index32_lt h)⟩,
      fun h => ⟨if_neg (not_index32_lt h), if_neg (not_index32_lt h)⟩⟩

/-! ## The hidden bits -/

section
variable {cfg : Config} {ram : Ram} {i j : Int}

theorem hidEntry_pairWr16 (h : ramOk cfg ram = true) (v : Half) (x : BitVec 2) (k : Nat) :
    hidEntry cfg (pairWr16 cfg ram i v x) k =
      if index32 i < memSize cfg / 2 ∧ k = index32 i then x else hidEntry cfg ram k := by
  unfold pairWr16
  dsimp only
  split
  · rename_i hi
    simp only [hidEntry_setHid (ramOk_putHalf h _ v hi), hidEntry_putHalf, hi, true_and]
  · rename_i hi
    simp only [hi, false_and, if_false]

theorem hidEntry_pairWr8 (h : ramOk cfg ram = true) (v : Byte) (x : BitVec 2) (k : Nat) :
    hidEntry cfg (pairWr8 cfg ram i v x) k =
      if index32 i < memSize cfg ∧ index32 i % 2 = 1 ∧ k = index32 i / 2 then x else hidEntry cfg ram k := by
  unfold pairWr8
  dsimp only
  split
  · rename_i hi
    split
    · rename_i odd
      simp only [hidEntry_setHid (ramOk_setMemByte h _ v hi), hidEntry_setMemByte, hi, odd, true_and]
    · rename_i even
      simp only [hidEntry_setMemByte, even, false_and, and_false, if_false]
  · rename_i hi
    simp only [hi, false_and, if_false]

theorem hidEntry_pairWr32 (h : ramOk cfg ram = true) (hi : index32 i < memSize cfg / 4) (v : Word) (x y : BitVec 2) (k : Nat) :
    hidEntry cfg (pairWr32 cfg ram i v x y) k =
      if k = 2 * index32 i + 1 then y else if k = 2 * index32 i then x else hidEntry cfg ram k := by
  have word := ramOk_putWord h _ v hi
  rw [pairWr32_in hi, hidEntry_setHid (ramOk_setHid word _ x (by omega)), hidEntry_setHid word, hidEntry_putWord]

theorem memByte_pairWr32 (hi : index32 i < memSize cfg / 4) (v : Word) (x y : BitVec 2) (a : Nat) :
    memByte (pairWr32 cfg ram i v x y) a = memByte (putWord ram (index32 i) v) a := by
  rw [pairWr32_in hi, memByte_setHid, memByte_setHid]

/-- A halfword written with its hidden bits leaves every other halfword and its hidden bits. -/
theorem pairRd16_pairWr16_other (h : ramOk cfg ram = true) (ne : index32 j ≠ index32 i) (v : Half) (x : BitVec 2) :
    pairRd16 cfg (pairWr16 cfg ram i v x) j = pairRd16 cfg ram j := by
  by_cases hj : index32 j < memSize cfg / 2
  · rw [pairRd16_in hj, pairRd16_in hj, memByte_pairWr16_other h _ _ _ _ (by omega) (by omega),
      memByte_pairWr16_other h _ _ _ _ (by omega) (by omega), hidEntry_pairWr16 h, if_neg fun e => ne e.2]
  · exact (if_neg hj).trans (if_neg hj).symm

/-- The two halfwords of a word written with their hidden bits, read back. -/
theorem pairRd16_pairWr32 (h : ramOk cfg ram = true) (hi : index32 i < memSize cfg / 4) (v : Word) (x y : BitVec 2) :
    (index32 j = 2 * index32 i → pairRd16 cfg (pairWr32 cfg ram i v x y) j = (v.extractLsb 31 16, x)) ∧
      (index32 j = 2 * index32 i + 1 → pairRd16 cfg (pairWr32 cfg ram i v x y) j = (v.extractLsb 15 0, y)) := by
  obtain ⟨b0, b1, b2, b3⟩ := bytes_putWord h hi v
  constructor <;> intro hj <;>
    rw [pairRd16_in (by omega), hj, memByte_pairWr32 hi, memByte_pairWr32 hi, hidEntry_pairWr32 h hi]
  · rw [show 2 * (2 * index32 i) = 4 * index32 i by omega, b0, b1, if_neg (by omega), if_pos rfl,
      BitVec.extractLsb'_append_extractLsb'_eq_extractLsb' (by omega)]
    rfl
  · rw [show 2 * (2 * index32 i + 1) = 4 * index32 i + 2 by omega, b2, b3, if_pos rfl,
      BitVec.extractLsb'_append_extractLsb'_eq_extractLsb' (by omega)]
    rfl

end

/-- Settles O48: in range by what each pair write does to every byte and every hidden entry, out of range by the bounds test. -/
theorem pairPrimitives : Obligations.PairPrimitives := by
  intro cfg ram ok _ bits
  have size := memSize_le bits
  refine ⟨fun u v x hu => ?half, fun u v x y hu => ?word, fun u v x hu => ?byte, fun a v8 v16 v32 x y => ?out⟩
  case half =>
    have idx : index32 (u : Int) = u := index32_of_lt hu (by omega)
    refine ⟨pairRd16_pairWr16 ok u v x (by omega), fun k hk => pairRd16_pairWr16_other ok ?_ v x⟩
    rwa [index32_natCast, idx]
  case word =>
    have idx : index32 (u : Int) = u := index32_of_lt hu (by omega)
    have upper : index32 ((2 * u : Nat) : Int) = 2 * u := index32_of_lt (n := memSize cfg) (by omega) size
    have lower : index32 ((2 * u + 1 : Nat) : Int) = 2 * u + 1 := index32_of_lt (n := memSize cfg) (by omega) size
    refine ⟨(pairRd16_pairWr32 ok (by omega) v x y).1 (by omega), (pairRd16_pairWr32 ok (by omega) v x y).2 (by omega),
      fun k hk => ?_⟩
    rw [hidEntry_pairWr32 ok (by omega), if_neg (by omega), if_neg (by omega)]
  case byte =>
    have idx : index32 (u : Int) = u := index32_of_lt hu size
    refine ⟨?_, fun a ha => ?_, ?_, fun k hk => ?_⟩
    · rw [memByte_pairWr8 ok, idx, if_pos ⟨hu, rfl⟩]
    · rw [memByte_pairWr8 ok, idx, if_neg fun e => ha e.2]
    · simp only [hidEntry_pairWr8 ok, idx, hu, true_and, and_true]
    · rw [hidEntry_pairWr8 ok, idx, if_neg fun e => hk e.2.2]
  case out =>
    exact ⟨fun h => if_neg (not_index32_lt h), fun h => ⟨if_neg (not_index32_lt h), if_neg (not_index32_lt h)⟩,
      fun h => if_neg (not_index32_lt h)⟩

/-! ## Texture memory and the alternate source -/

/-- A halfword of texture memory is two of its bytes, big-endian. -/
theorem tmem16_bytes (m : Cells Byte) (i : Int) : tmem16 m i = tmem8 m (2 * i) ++ tmem8 m (2 * i + 1) := by
  have upper : (zext 12 (2 * i)).toNat = 2 * (zext 11 i).toNat := by
    simp only [zext]
    omega
  have lower : (zext 12 (2 * i + 1)).toNat = 2 * (zext 11 i).toNat + 1 := by
    simp only [zext]
    omega
  rw [tmem8, tmem8, upper, lower]
  rfl

theorem tmem8_congr (m : Cells Byte) {a b : Int} (h : a % 4096 = b % 4096) : tmem8 m a = tmem8 m b := by
  simp only [tmem8, zext]
  congr 2

theorem tmem16_congr (m : Cells Byte) {i j : Int} (h : i % 2048 = j % 2048) : tmem16 m i = tmem16 m j := by
  rw [tmem16_bytes, tmem16_bytes, tmem8_congr m (show 2 * i % 4096 = 2 * j % 4096 by omega),
    tmem8_congr m (show (2 * i + 1) % 4096 = (2 * j + 1) % 4096 by omega)]

/-- Four halfwords of two bytes each are eight bytes in a row. -/
theorem append_halves (b0 b1 b2 b3 b4 b5 b6 b7 : Byte) :
    (b0 ++ b1) ++ (b2 ++ b3) ++ (b4 ++ b5) ++ (b6 ++ b7) = b0 ++ b1 ++ b2 ++ b3 ++ b4 ++ b5 ++ b6 ++ b7 := by
  have pair : ∀ {n : Nat} (a : BitVec n) (b c : Byte), a ++ (b ++ c) = a ++ b ++ c := fun a b c => by
    rw [BitVec.append_assoc]
    rfl
  rw [pair, pair, pair]

/-- A doubleword of texture memory is eight of its bytes, big-endian. -/
theorem tmem64_bytes (m : Cells Byte) (w : Int) : tmem64 m w =
    tmem8 m (8 * w) ++ tmem8 m (8 * w + 1) ++ tmem8 m (8 * w + 2) ++ tmem8 m (8 * w + 3) ++ tmem8 m (8 * w + 4) ++
      tmem8 m (8 * w + 5) ++ tmem8 m (8 * w + 6) ++ tmem8 m (8 * w + 7) := by
  have half : ∀ k : Int, tmem16 m (4 * zext 9 w + k) = tmem8 m (8 * w + 2 * k) ++ tmem8 m (8 * w + (2 * k + 1)) := by
    intro k
    have row : (4 * zext 9 w + k) % 2048 = (4 * w + k) % 2048 := by
      simp only [zext]
      omega
    rw [tmem16_congr m row, tmem16_bytes]
    congr 2 <;> omega
  have half0 := half 0
  rw [Int.add_zero] at half0
  rw [tmem64, half0, half 1, half 2, half 3]
  simp only [Int.reduceMul, Int.reduceAdd, Int.add_zero]
  exact append_halves ..

theorem read_setTmem16 {m : Cells Byte} (h : Cells.wf (0 : Byte) 4096 m = true) (i : Int) (v : Half) (a : Nat) :
    Cells.read 0 (setTmem16 m i v) a =
      if a = 2 * (zext 11 i).toNat + 1 then v.extractLsb' 0 8
      else if a = 2 * (zext 11 i).toNat then v.extractLsb' 8 8 else Cells.read 0 m a := by
  have inside : 2 * (zext 11 i).toNat < 4096 := by
    simp only [zext]
    omega
  rw [setTmem16, Cells.read_write 0 _ (Cells.wf_rising (Cells.wf_write h _ _ inside)), Cells.read_write 0 m (Cells.wf_rising h)]

/-- A halfword write puts the halfword and leaves every other. -/
theorem tmem16_setTmem16 {m : Cells Byte} (h : Cells.wf (0 : Byte) 4096 m = true) (i j : Int) (v : Half) :
    tmem16 (setTmem16 m i v) j = if i % 2048 = j % 2048 then v else tmem16 m j := by
  have same : i % 2048 = j % 2048 ↔ (zext 11 j).toNat = (zext 11 i).toNat := by
    simp only [zext]
    omega
  rw [tmem16, read_setTmem16 h, read_setTmem16 h]
  by_cases e : i % 2048 = j % 2048
  · rw [if_pos e, same.1 e, if_neg (by omega), if_pos rfl, if_pos rfl]
    exact half_join v
  · rw [if_neg e]
    rw [same] at e
    rw [if_neg (by omega), if_neg (by omega), if_neg (by omega), if_neg (by omega)]
    rfl

/-- Settles O49: every view is a view of the bytes, and an index is used modulo the size of its view. -/
theorem memoryViews : Obligations.MemoryViews := by
  refine ⟨tmem16_bytes, tmem64_bytes, fun m a => ⟨?_, ?_, ?_⟩, fun m i j v h => tmem16_setTmem16 h i j v, fun m k => ?_⟩
  · exact tmem8_congr m (by omega)
  · exact tmem16_congr m (by omega)
  · have wrap : zext 9 (a + 512) = zext 9 a := Int.add_emod_right a 512
    rw [tmem64, tmem64, wrap]
  · rw [xmemWord, xmemWord, Nat.add_mod_right]

end Sys2Proof.Machine
end

section
/-! The encoding of the commands (30_encoding.md R120 to R156): the length table, the ignored bits, and that decoding is total and
undoes encoding. -/

namespace Sys2Proof

/-! ## Length and opcode -/

/-- The law of the encoding holds of every instruction: each begins with a first word made by `headWord`. -/
theorem encoding_statement (i : Instr) : Laws.Encoding.Statement i := by
  cases i
  all_goals exact ⟨rfl, rfl, opcodeOf_headWord _ _, Laws.Encoding.headWord_top _ _⟩

theorem length_flatMap_bytesOfWord (ws : List Word) : (ws.flatMap bytesOfWord).length = 4 * ws.length := by
  induction ws with
  | nil => rfl
  | cons w ws ih =>
    have four : (bytesOfWord w).length = 4 := rfl
    rw [List.flatMap_cons, List.length_append, List.length_cons, four, ih]
    omega

theorem length_encodeBytes (i : Instr) : (encodeBytes i).length = 4 * cmdLen i.op := by
  obtain ⟨-, len, -, -⟩ := encoding_statement i
  rw [encodeBytes, length_flatMap_bytesOfWord, len]

/-- Settles O4: the table over the 64 opcodes, and the length of every encoded instruction. -/
theorem lengthTable : Obligations.LengthTable := by
  refine ⟨by decide, by decide, by decide, cmdLen_le, fun i => ?_⟩
  obtain ⟨-, len, -, -⟩ := encoding_statement i
  exact ⟨len, length_encodeBytes i⟩

/-- Settles O2: the length test of `decodeWords`, and that a whole command decodes. -/
theorem decodeTotal : Obligations.DecodeTotal := by
  intro ws
  refine ⟨fun short => if_pos short, fun whole => ?_⟩
  obtain ⟨i, hi, op⟩ := decodeWords_whole whole
  exact ⟨i, op ▸ hi, op⟩

/-- Settles O5: the decoder evaluated on each command's words. -/
theorem decodeSanityWords : Obligations.DecodeSanityWords :=
  ⟨rfl, rfl, rfl, rfl, rfl, rfl, rfl, rfl, rfl⟩

/-! ## The ignored bits -/

section
variable {w v : Word} (h : w.extractLsb 29 0 = v.extractLsb 29 0)
include h

theorem flagOf_congr (i : Nat) (hi : i < 30) : flagOf w i = flagOf v i := by
  simpa [flagOf, show i ≤ 29 by omega] using congrArg (·.getLsbD i) h

theorem fieldOf_congr (lo n : Nat) (hn : lo + n ≤ 30) : fieldOf w lo n = fieldOf v lo n := by
  apply BitVec.eq_of_getLsbD_eq
  intro i hi
  simp only [fieldOf, BitVec.getLsbD_extractLsb', hi, decide_true, Bool.true_and]
  exact flagOf_congr h (lo + i) (by omega)

/-- No format has a field in the two top bits of the first word. -/
theorem decodeOp_congr_head (op : BitVec 6) (rest : List Word) :
    decodeOp op (fun k => (w :: rest).getD k 0) = decodeOp op (fun k => (v :: rest).getD k 0) := by
  unfold decodeOp
  split
  all_goals
    simp (disch := omega) only [decodeEdges, decodeRect, decodeTexRect, decodeScissor, decodeOtherModes, decodeCombine,
      decodeKeyGb, decodeKeyR, decodeConvert, decodePrimDepth, decodeColor, decodePrimColor, decodeImage, decodeTile,
      decodeTileSize, List.getD_cons_zero, fieldOf_congr h, flagOf_congr h]
  all_goals rfl

end

/-- A command is at least one word long, so its first word is no part of what follows it. -/
theorem drop_cmdLen_cons (op : BitVec 6) (w : Word) (rest : List Word) :
    (w :: rest).drop (cmdLen op) = rest.drop (cmdLen op - 1) :=
  List.drop_cons (Nat.zero_lt_of_lt (cmdLen_pos op))

/-- Settles O3: opcode, length test, fields and what is left over all look past the two bits. -/
theorem ignoredTopBits : Obligations.IgnoredTopBits := by
  refine ⟨fun _ => rfl, fun w v rest h => ?_⟩
  have op : opcodeOf w = opcodeOf v := fieldOf_congr h 24 6 (by omega)
  simp only [decodeWords, List.getD_cons_zero, List.length_cons, drop_cmdLen_cons, op, decodeOp_congr_head h]

/-! ## Decoding what was encoded -/

/-- The words of a block that stands between two others. -/
theorem getD_append_middle {pre block : List Word} (more : List Word) {j : Nat} (h : j < block.length) :
    (pre ++ block ++ more).getD (pre.length + j) 0 = block.getD j 0 := by
  rw [getD_append_left more (by rw [List.length_append]; omega), List.getD_eq_getElem?_getD, List.getD_eq_getElem?_getD,
    List.getElem?_append_right (Nat.le_add_right ..), Nat.add_sub_cancel_left]

theorem decodeEdges_append (op : BitVec 6) (e : TriEdges) (more : List Word) :
    decodeEdges (fun k => (edgeWords op e ++ more).getD k 0) = e :=
  decodeEdges_words op e _ fun _ h => getD_append_left more h

theorem decodeShade_append (pre : List Word) (c : ShadeBlock) (more : List Word) :
    decodeShade (fun k => (pre ++ shadeWords c ++ more).getD k 0) pre.length = c :=
  decodeShade_words c _ _ fun _ h => getD_append_middle more h

theorem decodeTex_append (pre : List Word) (x : TexBlock) (more : List Word) :
    decodeTex (fun k => (pre ++ texWords x ++ more).getD k 0) pre.length = x :=
  decodeTex_words x _ _ fun _ h => getD_append_middle more h

/-- `K2` of SET_CONVERT, split across the two words (30_encoding.md R141). -/
theorem k2_join (k : BitVec 9) : k.extractLsb' 5 4 ++ k.extractLsb' 0 5 = k := by
  rw [BitVec.extractLsb'_append_extractLsb'_eq_extractLsb' (by omega)]
  exact extract_self k

/-- The decoder reads every operand where the encoder put it. A triangle is read block by block, the depth block being its four
words as they are; of the other formats each field is cut out of the concatenation it stands in. -/
theorem decodeOp_encode (i : Instr) : decodeOp i.op (fun k => (encode i).getD k 0) = some i := by
  cases i
  case triFill e => exact congrArg (some <| Instr.triFill ·) (decodeEdges_append 0x08 e [])
  case triFillZ e z => exact congrArg (some <| Instr.triFillZ · z) (decodeEdges_append 0x09 e (zWords z))
  case triTex e x =>
    exact congr (congrArg (some <| Instr.triTex · ·) (decodeEdges_append 0x0A e (texWords x)))
      (decodeTex_append (edgeWords 0x0A e) x [])
  case triTexZ e x z =>
    exact congr (congrArg (some <| Instr.triTexZ · · z) (decodeEdges_append 0x0B e (texWords x ++ zWords z)))
      (decodeTex_append (edgeWords 0x0B e) x (zWords z))
  case triShade e c =>
    exact congr (congrArg (some <| Instr.triShade · ·) (decodeEdges_append 0x0C e (shadeWords c)))
      (decodeShade_append (edgeWords 0x0C e) c [])
  case triShadeZ e c z =>
    exact congr (congrArg (some <| Instr.triShadeZ · · z) (decodeEdges_append 0x0D e (shadeWords c ++ zWords z)))
      (decodeShade_append (edgeWords 0x0D e) c (zWords z))
  case triShadeTex e c x =>
    exact congr (congr (congrArg (some <| Instr.triShadeTex · · ·) (decodeEdges_append 0x0E e (shadeWords c ++ texWords x)))
      (decodeShade_append (edgeWords 0x0E e) c (texWords x))) (decodeTex_append (edgeWords 0x0E e ++ shadeWords c) x [])
  case triShadeTexZ e c x z =>
    exact congr (congr (congrArg (some <| Instr.triShadeTexZ · · · z)
      (decodeEdges_append 0x0F e (shadeWords c ++ texWords x ++ zWords z)))
      (decodeShade_append (edgeWords 0x0F e) c (texWords x ++ zWords z)))
      (decodeTex_append (edgeWords 0x0F e ++ shadeWords c) x (zWords z))
  case textureRectangle | textureRectangleFlip | fillRectangle | setKeyGb | setKeyR | setConvert | setScissor | setPrimDepth
      | setOtherModes | loadTlut | setTileSize | loadBlock | loadTile | setTile | setFillColor | setFogColor | setBlendColor
      | setPrimColor | setEnvColor | setCombine | setTextureImage | setZImage | setColorImage =>
    simp (disch := omega) only [Instr.op, decodeOp, encode, BitVec.reduceToNat, List.cons_append, List.nil_append,
      List.getD_cons_zero, List.getD_cons_succ, decodeRect, rectWords, decodeTexRect, texRectWords, decodeTileSize,
      tileSizeWords, decodeTile, tileWords, decodeImage, imageWords, decodeCombine, combineWords, decodeOtherModes,
      otherModesWords, decodeColor, colorWord, decodePrimColor, decodePrimDepth, decodeKeyGb, decodeKeyR, decodeConvert,
      decodeScissor, fieldOf, flagOf, headWord, extract_append_low, extract_append_high, getLsbD_append_low,
      getLsbD_append_high, Nat.reduceSub, extract_self, getLsbD_bitOf, cycleTypeOfBits_bits, zModeOfBits_bits,
      cvgDestOfBits_bits, k2_join]
  all_goals rfl

/-- A whole command decodes alone as it does before more words, which are left over. -/
theorem decodeWords_encode_append (i : Instr) (rest : List Word) : decodeWords (encode i ++ rest) = .ok (i, rest) := by
  obtain ⟨-, len, op, -⟩ := encoding_statement i
  have alone : decodeWords (encode i) = .ok (i, (encode i).drop (cmdLen i.op)) := by
    simp only [decodeWords, op, len, Nat.lt_irrefl, if_false, decodeOp_encode]
  obtain ⟨j, -, hj, both⟩ := decodeWords_append rest (ws := encode i) (Nat.le_of_eq (by rw [op, len]))
  cases hj.symm.trans alone
  rw [both, List.drop_left' len]

theorem wordsOfBytes_flatMap_append (ws : List Word) (bs : List Byte) :
    wordsOfBytes (ws.flatMap bytesOfWord ++ bs) = ws ++ wordsOfBytes bs := by
  induction ws with
  | nil => rfl
  | cons w ws ih => exact congr (congrArg List.cons (bytes_join w)) ih

theorem decode_encodeBytes_append (i : Instr) (bs : List Byte) : decode (encodeBytes i ++ bs) = .ok (i, bs) := by
  obtain ⟨-, len, op, -⟩ := encoding_statement i
  have words : wordsOfBytes (encodeBytes i ++ bs) = encode i ++ wordsOfBytes bs := wordsOfBytes_flatMap_append ..
  have head : (encode i ++ wordsOfBytes bs).getD 0 0 = (encode i).getD 0 0 :=
    getD_append_left _ (by have := cmdLen_pos i.op; omega)
  simp only [decode, words, decodeWords_encode_append, head, op, List.drop_left' (length_encodeBytes i)]

/-- Settles O1: decoding undoes encoding in words, and four bytes a word in bytes. -/
theorem roundTrip : Obligations.RoundTrip :=
  ⟨fun i rest => ⟨(encoding_statement i).1, decodeWords_encode_append i rest⟩, decode_encodeBytes_append⟩

end Sys2Proof
end

section
/-! The command processor (40_command_processor.md R161 to R179): where words come from, what a step dispatches, how a call ends,
the commands that do nothing, and the host operations. -/

namespace Sys2Proof.Machine

/-! ## What a command does -/

/-- Everything a command can do: walk the edges of its block, load, or set what its `SettingEffect` names. -/
theorem exec_cases {i : Instr} {s t : State} (h : exec i s = .next t) :
    (drawing i = true ∧ t = edgeWalk s (blockOf s.mode.cycleType i)) ∨
      (loading i = true ∧ t = { s with tiles := t.tiles, tmem := t.tmem, crashed := t.crashed, scratch := t.scratch }) ∨
      SettingEffect s i t := by
  cases hd : drawing i
  case true =>
    cases (exec_drawing hd s).symm.trans h
    exact .inl ⟨rfl, rfl⟩
  case false =>
    cases hl : loading i
    case true =>
      obtain ⟨u, hu, frame⟩ := exec_loading hl s
      cases hu.symm.trans h
      exact .inr (.inl ⟨rfl, frame⟩)
    case false => exact .inr (.inr (settingEffect_of_exec hd hl h))

/-- No command writes `START` or `CURRENT`, and only SYNC_FULL emits (40_command_processor.md R179, 60_exceptions.md R606). -/
theorem exec_keeps_cursors {i : Instr} {s t : State} (h : exec i s = .next t) :
    t.startc = s.startc ∧ t.current = s.current ∧ (i ≠ .syncFull → t.syncEvents = s.syncEvents) := by
  rcases exec_cases h with ⟨-, walk⟩ | ⟨-, load⟩ | setting
  · rw [walk, edgeWalk_frame]
    exact ⟨rfl, rfl, fun _ => rfl⟩
  · rw [load]
    exact ⟨rfl, rfl, fun _ => rfl⟩
  · cases setting
    case syncFull => exact ⟨rfl, rfl, fun other => absurd rfl other⟩
    all_goals exact ⟨rfl, rfl, fun _ => rfl⟩

/-! ## What a step does -/

theorem step_idle {s : State} (hn : s.call = none) : step s = .next s := by simp [step, hn]

section
variable {s : State} {c : Call} (hc : s.call = some c)
include hc

theorem step_crashed (hcr : s.crashed = true) : step s = .next (finishCall s) := by simp [step, hc, stepCall, hcr]

theorem step_clear (hcr : s.crashed = false) : step s = dispatchHead (refill s c) := by simp [step, hc, stepCall, hcr]

end

/-- Every step answers a next state: a whole command decodes, and every command answers one. -/
theorem step_next (s : State) : ∃ t, step s = .next t := by
  cases hc : s.call with
  | none => exact ⟨s, step_idle hc⟩
  | some c =>
    cases hcr : s.crashed
    case true => exact ⟨_, step_crashed hc hcr⟩
    case false =>
      rw [step_clear hc hcr]
      cases hw : wholeHead (pending (refill s c))
      case false => exact ⟨_, dispatchHead_end hw⟩
      case true =>
        obtain ⟨i, -, -, run⟩ := dispatchHead_whole hw
        obtain ⟨t, ht⟩ := exec_next i (refill s c)
        exact ⟨_, by rw [run, ht]; rfl⟩

/-- Settles O7: what no command writes, and that every step answers a next state. -/
theorem handlerFrame : Obligations.HandlerFrame := by
  refine ⟨fun i s => ?_, step_next⟩
  obtain ⟨t, ht⟩ := exec_next i s
  obtain ⟨cfg, endc, xbus, xmem, cmdq, qCur, call⟩ := exec_keeps_control ht
  obtain ⟨startc, current, sync⟩ := exec_keeps_cursors ht
  exact ⟨t, ht, cfg, startc, endc, current, xbus, cmdq, qCur, call, xmem, sync⟩

theorem refill_fresh {c : Call} (hf : c.fresh = true) (s : State) : refill s c = fetchBatch s c s.cmdq := by simp [refill, hf]

theorem refill_whole {s : State} {c : Call} (hf : c.fresh = false) (hw : wholeHead (pending s) = true) : refill s c = s := by
  simp [refill, hf, hw]

/-- What decodes is a whole command (40_command_processor.md R163, R167). -/
theorem wholeHead_of_decodeWords {ws rest : List Word} {i : Instr} (h : decodeWords ws = .ok (i, rest)) :
    wholeHead ws = true := by
  have fits : cmdLen (opcodeOf (ws.getD 0 0)) ≤ ws.length := by
    refine Nat.le_of_not_lt fun short => ?_
    cases (if_pos short).symm.trans h
  have := cmdLen_pos (opcodeOf (ws.getD 0 0))
  exact wholeHead_iff.2 ⟨List.length_pos_iff.1 (by omega), fits⟩

/-- A step executes what the head of the refilled queue decodes to, and passes it. -/
theorem step_decoded {s : State} {c : Call} {i : Instr} {rest : List Word} (hc : s.call = some c) (hcr : s.crashed = false)
    (hi : decodeWords (pending (refill s c)) = .ok (i, rest)) :
    step s = advanceOutcome (cmdLen i.op) (exec i (refill s c)) := by
  obtain ⟨j, hj, -, run⟩ := dispatchHead_whole (wholeHead_of_decodeWords hi)
  cases hi.symm.trans hj
  exact (step_clear hc hcr).trans run

/-! ## The host operations -/

theorem betweenCalls_idle {s : State} (hn : s.call = none) (t : State) : betweenCalls s t = t := by simp [betweenCalls, hn]

theorem hostRun_idle {s : State} (hn : s.call = none) : hostRun s = startCall s := betweenCalls_idle hn _

/-- R166. -/
theorem startCall_empty {s : State} (h : s.endc.toNat / 8 ≤ s.current.toNat / 8) : startCall s = s :=
  if_pos (Nat.mul_le_mul_right 8 h)

/-- Settles O11: no call is started, and between calls a run has nothing to do. -/
theorem emptyRange : Obligations.EmptyRange := by
  intro s hn empty
  have same := startCall_empty empty
  exact ⟨(hostRun_idle hn).trans same, by rw [processCommandList, same, stepsToIdle_of_idle hn]⟩

/-- Settles O6: by `step_decoded`, on the three forms of a refilled queue, and what starting a call does. -/
theorem stepRunsDecoded : Obligations.StepRunsDecoded := by
  refine ⟨fun s c i rest => step_decoded, fun s c => refill_whole, fun s c i rest hc hf hq hcur hcr hi => ?first,
    fun s hn nonempty => ?run⟩
  case first =>
    have ready : refill s c = fetchBatch s c [] := hq ▸ refill_fresh hf s
    have head : pending (refill s c) = fetchWords s c.widx (min c.remaining (cmdBatch s.cfg)) := by
      rw [ready, pending, fetchBatch_cmdq, fetchBatch_qCur, hcur, List.nil_append, List.drop_zero]
    rw [step_decoded hc hcr (head ▸ hi), ready]
    rfl
  case run =>
    rw [hostRun_idle hn, startCall_range nonempty]
    rfl

/-- A host operation keeps the invariant if what it does between calls does. -/
theorem inv_betweenCalls {s t : State} (hs : Inv s) (ht : s.call = none → Inv t) : Inv (betweenCalls s t) := by
  cases hc : s.call with
  | none =>
    rw [betweenCalls_idle hc]
    exact ht hc
  | some c => simpa only [betweenCalls, hc] using hs

/-- A range is whole 64-bit words, so a call starts with the queue in order (40_command_processor.md R165). -/
theorem inv_startCall {s : State} (h : Inv s) (hn : s.call = none) : Inv (startCall s) := by
  rcases Nat.lt_or_ge (s.current.toNat / 8) (s.endc.toNat / 8) with nonempty | empty
  · obtain ⟨stored, queued⟩ := (inv_iff s).1 h
    obtain ⟨len, even, cur, res⟩ := (queueOk_of_idle hn).1 queued
    rw [startCall_range nonempty]
    refine (inv_iff _).2 ⟨{ stored with }, (queueOk_of_call rfl).2 ⟨?_, len, ?_, ?_, fun _ => ⟨even, cur, res⟩⟩⟩
    all_goals
      simp only [State.withQueue, callAt]
      omega
  · rwa [startCall_empty empty]

theorem inv_resetLatch {s : State} (h : Inv s) (hn : s.call = none) : Inv (resetLatch s) := by
  obtain ⟨stored, -⟩ := (inv_iff s).1 h
  exact (inv_iff _).2 ⟨{ stored with }, queueOk_idle rfl rfl hn⟩

/-- A byte written to main memory by a collaborator (20_memory.md R80). -/
theorem inv_writeMem {s : State} (h : Inv s) (a : Nat) (v : Byte) :
    Inv { s with ram := if a < memSize s.cfg then setMemByte s.ram a v else s.ram } := by
  obtain ⟨stored, queued⟩ := (inv_iff s).1 h
  refine (inv_iff _).2 ⟨{ stored with ram := ?_ }, queued⟩
  rw [ramWf]
  split
  · exact ramOk_setMemByte stored.ram a v ‹_›
  · exact stored.ram

/-- A word written to the alternate source by a collaborator (20_memory.md R97). -/
theorem inv_writeXmem {s : State} (h : Inv s) (k : Nat) (v : Word) :
    Inv { s with xmem := Cells.write 0 s.xmem (k % 1024) v } := by
  obtain ⟨stored, queued⟩ := (inv_iff s).1 h
  exact (inv_iff _).2
    ⟨{ stored with xmem := Cells.wf_write stored.xmem _ v (Nat.mod_lt k (by omega)) }, queued⟩

/-- Settles O18: the invariant says nothing of the cursors and XBUS; the other four operations have a lemma each. -/
theorem invHost : Obligations.InvHost := fun _ h _ _ _ n v w =>
  ⟨inv_betweenCalls h fun _ => h, inv_betweenCalls h fun _ => h, inv_betweenCalls h fun _ => h,
    inv_betweenCalls h (inv_startCall h), inv_betweenCalls h (inv_resetLatch h),
    inv_betweenCalls h fun _ => inv_writeMem h n v, inv_betweenCalls h fun _ => inv_writeXmem h n w⟩

/-! ## The end of a call -/

theorem finishCall_refill (s : State) (c : Call) :
    finishCall (refill s c) =
      { s with cmdq := if s.crashed then [] else pending (refill s c), qCur := 0, current := s.endc, call := none } := by
  conv => lhs; rw [refill_frame]
  rfl

/-- Settles O10: `refill` stops only at a whole command or at the end of the range, and without a whole command the step is the
end of the call. -/
theorem stallKeepsResidue : Obligations.StallKeepsResidue := by
  intro s c hc hq hcr part
  obtain ⟨d, hd, -, ready⟩ := refill_call hc hq
  refine ⟨⟨d, hd, by simpa [part] using ready⟩, ?_⟩
  rw [step_clear hc hcr, dispatchHead_end part, finishCall_refill]
  simp [hcr]

/-- The words a machine in a call has before it: those of the queue and those still to fetch. -/
def wordsLeft (s : State) : Nat := (pending s).length + s.call.elim 0 Call.remaining

theorem wordsLeft_of_call {s : State} {c : Call} (hc : s.call = some c) :
    wordsLeft s = s.cmdq.length - s.qCur + c.remaining := by
  rw [wordsLeft, length_pending, hc, Option.elim_some]

/-- A batch moves words from the range to the queue. -/
theorem wordsLeft_fetchBatch {s : State} {q : List Word} (hq : s.qCur ≤ q.length) (c : Call) :
    wordsLeft (fetchBatch s c q) = q.length - s.qCur + c.remaining ∧
      (fetchBatch s c q).qCur ≤ (fetchBatch s c q).cmdq.length := by
  rw [wordsLeft_of_call (fetchBatch_call s c q)]
  simp only [fetchBatch_cmdq, fetchBatch_qCur, List.length_append, length_fetchWords]
  omega

/-- `refill` brings words to fetch into the queue, or the reverse; it neither adds nor drops one (R165, R170). -/
theorem refill_keeps_wordsLeft {s : State} {c : Call} (hc : s.call = some c) (hq : s.qCur ≤ s.cmdq.length) :
    wordsLeft (refill s c) = wordsLeft s ∧ (refill s c).qCur ≤ (refill s c).cmdq.length := by
  have left := wordsLeft_of_call hc
  rcases refill_cases s c with ⟨-, hr⟩ | ⟨-, -, hr⟩ | ⟨-, -, -, hr⟩ <;> rw [hr]
  · rw [left]
    exact wordsLeft_fetchBatch hq c
  · exact ⟨rfl, hq⟩
  · obtain ⟨again, passed⟩ := wordsLeft_fetchBatch (s := { s with qCur := 0 }) (Nat.zero_le [].length) (refetch s c)
    have back : (refetch s c).remaining = c.remaining + (pending s).length := rfl
    refine ⟨?_, passed⟩
    rw [again, left, back, length_pending, List.length_nil]
    omega

/-- No step writes `START` or `END`. -/
theorem step_keeps_range {s t : State} (h : step s = .next t) : t.startc = s.startc ∧ t.endc = s.endc := by
  rcases step_cases h with ⟨-, rfl⟩ | ⟨c, -, ⟨-, rfl⟩ | ⟨-, -, rfl⟩ | ⟨-, i, u, -, -, run, rfl⟩⟩
  · exact ⟨rfl, rfl⟩
  · exact ⟨rfl, rfl⟩
  · rw [finishCall_refill]
    exact ⟨rfl, rfl⟩
  · have start := (exec_keeps_cursors run).1
    have stop := (exec_keeps_control run).endc
    rw [refill_frame] at start stop
    exact ⟨start, stop⟩

/-- A call has ended (R168, R171, R172, R178): clean, stalled with a part of a command, or crashed. -/
structure CallEnded (t : State) : Prop where
  call : t.call = none
  current : t.current = t.endc
  qCur : t.qCur = 0
  ending : (t.crashed = false ∧ t.cmdq = []) ∨ (t.crashed = false ∧ t.cmdq ≠ [] ∧ wholeHead t.cmdq = false) ∨
    (t.crashed = true ∧ t.cmdq = [])

theorem callEnded_finishCall {s : State} (h : s.crashed = true ∨ wholeHead (pending s) = false) : CallEnded (finishCall s) := by
  refine ⟨rfl, rfl, rfl, ?_⟩
  cases hcr : s.crashed
  case true => exact .inr (.inr (by simp [hcr]))
  case false =>
    have part : wholeHead (pending s) = false := by simpa [hcr] using h
    by_cases clean : pending s = []
    · exact .inl (by simp [hcr, clean])
    · exact .inr (.inl (by simp [hcr, clean, part]))

/-- A step of a call ends it, or leaves fewer words before the machine. -/
theorem step_ends_or_dispatches {s t : State} {c : Call} (hc : s.call = some c) (hq : s.qCur ≤ s.cmdq.length)
    (h : step s = .next t) :
    CallEnded t ∨ ((∃ d, t.call = some d) ∧ t.qCur ≤ t.cmdq.length ∧ wordsLeft t < wordsLeft s) := by
  rcases step_cases h with ⟨hn, -⟩ | ⟨c', hc', ended⟩
  · cases hc.symm.trans hn
  cases hc.symm.trans hc'
  rcases ended with ⟨hcr, rfl⟩ | ⟨-, part, rfl⟩ | ⟨-, i, u, whole, hi, run, rfl⟩
  · exact .inl (callEnded_finishCall (.inl hcr))
  · exact .inl (callEnded_finishCall (.inr part))
  · obtain ⟨left, passed⟩ := refill_keeps_wordsLeft hc hq
    obtain ⟨d, hd, -⟩ := refill_call hc hq
    obtain ⟨j, hj, op, -⟩ := dispatchHead_whole whole
    cases hi.symm.trans hj
    have fits : cmdLen i.op ≤ (pending (refill s c)).length := op ▸ (wholeHead_iff.1 whole).2
    have kept := exec_keeps_control run
    have := cmdLen_pos i.op
    refine .inr ⟨⟨d, kept.call.trans hd⟩, ?_⟩
    rw [← left, wordsLeft_of_call hd, wordsLeft_of_call (s := advance u (cmdLen i.op)) (kept.call.trans hd)]
    rw [length_pending] at fits
    simp only [advance_qCur, advance_cmdq, kept.qCur, kept.cmdq]
    omega

/-- One step for each word before the machine and one more are enough to end the call. -/
theorem stepsToIdle_ends {fuel : Nat} {s : State} {c : Call} (hc : s.call = some c) (hq : s.qCur ≤ s.cmdq.length)
    (enough : wordsLeft s ≤ fuel) :
    ∃ t, stepsToIdle (fuel + 1) s = .next t ∧ CallEnded t ∧ t.startc = s.startc ∧ t.endc = s.endc := by
  induction fuel generalizing s c with
  | zero =>
    obtain ⟨t, ht⟩ := step_next s
    rcases step_ends_or_dispatches hc hq ht with ended | ⟨-, -, fewer⟩
    · exact ⟨t, stepsToIdle_of_step hc ht 0, ended, step_keeps_range ht⟩
    · omega
  | succ fuel ih =>
    obtain ⟨t, ht⟩ := step_next s
    obtain ⟨start, stop⟩ := step_keeps_range ht
    rw [stepsToIdle_of_step hc ht]
    rcases step_ends_or_dispatches hc hq ht with ended | ⟨⟨d, hd⟩, passed, fewer⟩
    · exact ⟨t, stepsToIdle_of_idle ended.call _, ended, start, stop⟩
    · obtain ⟨u, hu, ended, start', stop'⟩ := ih hd passed (by omega)
      exact ⟨u, hu, ended, start'.trans start, stop'.trans stop⟩

/-- Settles O14: the fuel of a run is the number of words before the machine when the call starts, and one. -/
theorem runEnds : Obligations.RunEnds := by
  intro s _ cur0 nonempty
  have start := startCall_range nonempty
  have fuel : wordsLeft (startCall s) ≤ s.cmdq.length + (aligned s.endc - aligned s.current) / 4 := by
    rw [start, wordsLeft_of_call rfl]
    simp only [State.withQueue, callAt, aligned]
    omega
  obtain ⟨t, ht, ⟨call, current, qCur, ending⟩, startc, endc⟩ :=
    stepsToIdle_ends (s := startCall s) (by rw [start]; rfl) (by rw [start]; simp [State.withQueue, cur0]) fuel
  rw [start] at startc endc
  exact ⟨t, ht, call, current.trans endc, endc, startc, qCur, ending⟩

/-! ## The commands that do nothing -/

theorem exec_noOp (s : State) : ∀ i ∈ noOps, exec i s = .next s := by
  simp only [noOps, List.forall_mem_append, List.forall_mem_cons, List.not_mem_nil, false_implies, implies_true, and_true]
  and_intros
  all_goals rfl

/-- The opcodes of R175, R176 and R201 to R203 are those of the commands listed. -/
theorem mem_noOps_of_op {i : Instr} (h : noOpOpcode i.op = true) : i ∈ noOps := by
  cases i <;> simp [noOps, noOpOpcode, Instr.op] at h ⊢

theorem nop_of_op : ∀ {i : Instr}, i ∈ noOps → i.op = 0 → i = .nop := by decide

theorem cmdLen_noOp : ∀ {op : BitVec 6}, noOpOpcode op = true → cmdLen op = 2 := by decide

/-- Two words with such an opcode are a whole command, whatever their operand bits. -/
theorem decodeWords_noOp (w0 w1 : Word) (rest : List Word) (h : noOpOpcode (opcodeOf w0) = true) :
    ∃ i ∈ noOps, i.op = opcodeOf w0 ∧ decodeWords (w0 :: w1 :: rest) = .ok (i, rest) := by
  have two : cmdLen (opcodeOf w0) = 2 := cmdLen_noOp h
  have fits : cmdLen (opcodeOf w0) ≤ (w0 :: w1 :: rest).length := two ▸ Nat.le_add_left 2 rest.length
  obtain ⟨i, hi, op⟩ := decodeWords_whole (ws := w0 :: w1 :: rest) fits
  rw [op, List.getD_cons_zero, two] at hi
  exact ⟨i, mem_noOps_of_op (op ▸ h), op, hi⟩

/-- Settles O20: each listed command is its own case of `exec`, and the opcode decides which is decoded. -/
theorem noOpsChangeNothing : Obligations.NoOps := by
  refine ⟨fun i hi s => exec_noOp s i hi, fun w0 w1 rest h => ?_⟩
  obtain ⟨i, hi, -, dec⟩ := decodeWords_noOp w0 w1 rest h
  exact ⟨i, hi, dec⟩

/-! ## Where a word comes from -/

theorem fetchWord_xbus {s : State} (hx : s.xbus = true) (k : Nat) : fetchWord s k = xmemWord s.xmem k := if_pos hx

theorem fetchWord_ram {s : State} (hx : s.xbus = false) (k : Nat) : fetchWord s k = rd32 s.cfg s.ram k := by
  simp [fetchWord, hx]

/-- Beyond the ceiling main memory reads 0 (20_memory.md R85). -/
theorem rd32_beyond {cfg : Config} {k : Nat} (beyond : memSize cfg / 4 ≤ k) (hk : k < 2 ^ 32) (ram : Ram) :
    rd32 cfg ram k = 0 := by
  refine if_neg ?_
  rw [index32_of_lt hk (Nat.le_refl _)]
  omega

/-- Settles O12: the source XBUS selects, and the zero word read beyond memory. -/
theorem fetchSource : Obligations.FetchSource := by
  refine ⟨fun s k hx => ?_, fun s k hx => fetchWord_ram hx k, fun s k hx beyond hk => ?_, fun w rest => ?_⟩
  · rw [fetchWord_xbus hx, xmemWord, xmemWord, Nat.mod_mod]
  · rw [fetchWord_ram hx, rd32_beyond beyond hk]
  · obtain ⟨i, hi, op, dec⟩ := decodeWords_noOp 0 w rest rfl
    rw [dec, nop_of_op hi op]

end Sys2Proof.Machine
end


section
/-! The synchronisation command that has an effect (41_sync_commands.md R204, 60_exceptions.md R606). -/

namespace Sys2Proof

/-- A command of two words is whole at the head of any sequence of two or more, so what the fields of its opcode decode to is
what the sequence decodes to. -/
theorem decodeWords_two_words {w0 w1 : Word} {rest : List Word} {op : BitVec 6} {i : Instr} (hop : opcodeOf w0 = op)
    (two : cmdLen op = 2) (fields : decodeOp op (fun k => (w0 :: w1 :: rest).getD k 0) = some i) :
    decodeWords (w0 :: w1 :: rest) = .ok (i, rest) := by
  have fits : ¬ (w0 :: w1 :: rest).length < 2 := Nat.not_lt.2 (Nat.le_add_left 2 rest.length)
  simp only [decodeWords, List.getD_cons_zero, hop, two, if_neg fits, fields, List.drop_succ_cons, List.drop_zero]

end Sys2Proof

namespace Sys2Proof.Machine

/-- Settles O21: the opcode alone decides that the command is SYNC_FULL, whose whole effect is the emission. -/
theorem syncFull : Obligations.SyncFull :=
  ⟨fun _ _ _ op => decodeWords_two_words op rfl rfl, fun _ => rfl⟩

end Sys2Proof.Machine
end


section
/-! The commands that set the modes and registers of the pixel stages (42_mode_commands.md R221 to R245). A format's field and the
field a statement names are the same bits of the same word by definition, so once the opcode selects the format
(`decodeWords_two_words`) the operands agree by `rfl`; and a command's effect is the one update its row of `exec` makes. -/

namespace Sys2Proof

/-! ## The coded fields of SET_OTHER_MODES -/

@[simp] theorem cycleTypeBits_ofBits (b : BitVec 2) : cycleTypeBits (cycleTypeOfBits b) = b := by
  revert b
  decide

@[simp] theorem zModeBits_ofBits (b : BitVec 2) : zModeBits (zModeOfBits b) = b := by
  revert b
  decide

@[simp] theorem cvgDestBits_ofBits (b : BitVec 2) : cvgDestBits (cvgDestOfBits b) = b := by
  revert b
  decide

end Sys2Proof

namespace Sys2Proof.Machine

/-- Settles O22: the three coded fields by their code tables, each other field as the bits it is read from. -/
theorem setOtherModes : Obligations.SetOtherModes := by
  refine ⟨fun w0 w1 rest op => ⟨_, decodeWords_two_words op rfl rfl, ?_⟩, fun _ _ => rfl⟩
  simp only [decodeOtherModes, cycleTypeBits_ofBits, zModeBits_ofBits, cvgDestBits_ofBits]
  and_intros
  all_goals rfl

/-- Settles O23: two words, each selector a field of one of them. -/
theorem setCombine : Obligations.SetCombine :=
  ⟨fun _ _ _ op => decodeWords_two_words op rfl rfl, fun _ _ => rfl⟩

/-- Settles O24: two words, each edge and flag a field of one of them. -/
theorem setScissor : Obligations.SetScissor :=
  ⟨fun _ _ _ op => decodeWords_two_words op rfl rfl, fun _ _ => rfl⟩

/-! ## The primitive depth -/

/-- The depth field with zeros around it is the masked word it was read from (R231). -/
theorem primZ_fieldOf (w : Word) : 0#1 ++ fieldOf w 16 15 ++ 0#16 = w &&& 0x7fff0000 := by
  have whole : w = fieldOf w 31 1 ++ fieldOf w 16 15 ++ fieldOf w 0 16 := by
    rw [fieldOf, fieldOf, fieldOf, BitVec.extractLsb'_append_extractLsb'_eq_extractLsb' (by omega),
      BitVec.extractLsb'_append_extractLsb'_eq_extractLsb' (by omega)]
    exact (extract_self w).symm
  calc 0#1 ++ fieldOf w 16 15 ++ 0#16
      = (fieldOf w 31 1 ++ fieldOf w 16 15 ++ fieldOf w 0 16) &&& (0#1 ++ BitVec.allOnes 15 ++ 0#16) := by
        rw [BitVec.and_append, BitVec.and_append, BitVec.and_zero, BitVec.and_allOnes, BitVec.and_zero]
    _ = w &&& 0x7fff0000 := by rw [← whole]; rfl

/-- The depth field with zeros around it is the field moved to bits 30 to 16. -/
theorem primZ_shift (z : BitVec 15) : 0#1 ++ z ++ 0#16 = z.setWidth 32 <<< 16 := by
  simpa using
    BitVec.setWidth_append_append_eq_shiftLeft_setWidth_or (b := 0#1) (b' := z) (b'' := 0#16) (w''' := 32)

/-- What SET_PRIM_DEPTH does, with the depth field between its zeros. -/
theorem exec_setPrimDepth (o : PrimDepthOps) (s : State) :
    exec (.setPrimDepth o) s = .next { s with primZ := 0#1 ++ o.z ++ 0#16, primDz := o.dz } := rfl

/-- Settles O25: the field in place is the masked word, and the shifted operand. -/
theorem setPrimDepth : Obligations.SetPrimDepth := by
  refine ⟨fun w0 w1 rest op => ⟨_, decodeWords_two_words op rfl rfl, fun s => ?_⟩, fun o s => ?_⟩
  · rw [exec_setPrimDepth, ← primZ_fieldOf]
    rfl
  · rw [exec_setPrimDepth, primZ_shift]

/-! ## Keys, conversion and colours -/

/-- Settles O26: each command decodes by its opcode, and updates the registers of its row. -/
theorem setKeyConvert : Obligations.SetKeyConvert :=
  ⟨fun _ _ _ op => decodeWords_two_words op rfl rfl, fun _ _ _ op => decodeWords_two_words op rfl rfl, fun _ _ => rfl,
    fun _ _ => rfl, fun _ _ _ op => decodeWords_two_words op rfl rfl, fun _ _ => rfl⟩

/-- Settles O27: each command decodes by its opcode, and updates the register it is named after. -/
theorem setColors : Obligations.SetColors := by
  refine ⟨fun w0 w1 rest => ⟨?_, ?_, ?_, ?_, ?_⟩, fun _ _ => rfl, fun _ _ => rfl, fun _ _ => rfl, fun _ _ => rfl,
    fun _ _ => rfl⟩
  all_goals exact fun op => decodeWords_two_words op rfl rfl

end Sys2Proof.Machine
end


section
/-! The commands that set the images and the tiles (43_image_tile_commands.md R261 to R270). What a tile write does to the tile it
names and to the others is said once, of `setTile`; SET_TILE and SET_TILE_SIZE are each one such write. -/

namespace Sys2Proof.Machine

/-! ## Images -/

/-- The width as held, at 11 bits of the operand plus 1. -/
theorem heldWidth_eq_ofNat (w : BitVec 10) : heldWidth w = BitVec.ofNat 11 (w.toNat + 1) := by
  rw [← toNat_heldWidth, BitVec.ofNat_toNat, BitVec.setWidth_eq]

/-- Settles O28: each command decodes by its opcode, and its width is held as the operand plus 1. -/
theorem setImages : Obligations.SetImages := by
  refine ⟨fun _ _ _ => ⟨fun op => decodeWords_two_words op rfl rfl, fun op => decodeWords_two_words op rfl rfl,
    fun op => decodeWords_two_words op rfl rfl⟩, fun o s => ?_, fun o s => ?_, fun _ _ => rfl⟩
  all_goals
    rw [← heldWidth_eq_ofNat]
    rfl

/-! ## Tiles -/

@[simp] theorem getTile_setTile_same (s : State) (n : BitVec 3) (t : Tile) : getTile (setTile s n t) n = t :=
  Vector.getElem_set_self n.isLt

/-- Writing one tile leaves the other seven. -/
theorem getTile_setTile_of_ne (s : State) {m n : BitVec 3} (t : Tile) (h : m ≠ n) :
    getTile (setTile s n t) m = getTile s m :=
  Vector.getElem_set_ne n.isLt m.isLt fun same => h (BitVec.eq_of_toNat_eq same.symm)

/-- Settles O29: SET_TILE is one tile write, of a tile with the extent it had. -/
theorem setTileWrites : Obligations.SetTile :=
  ⟨fun _ _ _ op => decodeWords_two_words op rfl rfl, fun o s =>
    ⟨_, rfl, rfl, getTile_setTile_same s o.tile _, fun _ => getTile_setTile_of_ne s _⟩⟩

/-! ## Extents -/

/-- A register moved right is divided, and stays a natural number (R10). -/
theorem asr_unsigned {w : Nat} (v : BitVec w) (n : Nat) : asr (unsigned v) n = (v.toNat / 2 ^ n : Nat) := by
  simp [asr, unsigned]

theorem getTile_setExtent_same (s : State) (o : TileSizeOps) :
    getTile (setExtent s o) o.tile = { getTile s o.tile with sl := o.sl, tl := o.tl, sh := o.sh, th := o.th } :=
  getTile_setTile_same s o.tile _

/-- The extent write leaves the other seven tiles. -/
theorem getTile_setExtent_of_ne (s : State) (o : TileSizeOps) {n : BitVec 3} (h : n ≠ o.tile) :
    getTile (setExtent s o) n = getTile s n :=
  getTile_setTile_of_ne s _ h

/-- The distance between the extent's whole texels in `s`, modulo 1024. -/
theorem clampDiffS_eq (t : Tile) :
    clampDiffS t = ((t.sh.toNat / 4 : Nat) - (t.sl.toNat / 4 : Nat) : Int) % 1024 := by
  rw [clampDiffS, asr_unsigned, asr_unsigned]
  rfl

/-- The distance between the extent's whole texels in `t`, modulo 1024. -/
theorem clampDiffT_eq (t : Tile) :
    clampDiffT t = ((t.th.toNat / 4 : Nat) - (t.tl.toNat / 4 : Nat) : Int) % 1024 := by
  rw [clampDiffT, asr_unsigned, asr_unsigned]
  rfl

/-- Settles O30: SET_TILE_SIZE is the extent write, and the clamp differences are those of the extent written. -/
theorem setTileSize : Obligations.SetTileSize := by
  refine ⟨fun _ _ _ op => decodeWords_two_words op rfl rfl, fun o s => ?_⟩
  have written := getTile_setExtent_same s o
  refine ⟨setExtent s o, rfl, rfl, written, ?_, ?_, fun _ => getTile_setExtent_of_ne s o⟩
  · rw [written, clampDiffS_eq]
  · rw [written, clampDiffT_eq]

end Sys2Proof.Machine
end


section
/-! What the load commands do as a whole (44_load_commands.md R290 to R297): the extent write, the copy loop over the spans, and the
loads that copy nothing. -/

namespace Sys2Proof.Machine

/-! ## Tiles after a load -/

/-- The load loop writes no tile. -/
@[simp] theorem loadSpans_tiles (s : State) (n : BitVec 3) (k : LoadKind) (ps : List LoadSpan) :
    (loadSpans s n k ps).tiles = s.tiles := by
  rw [loadSpans_frame]

@[simp] theorem getTile_loadSpans (s : State) (n : BitVec 3) (k : LoadKind) (ps : List LoadSpan) (m : BitVec 3) :
    getTile (loadSpans s n k ps) m = getTile s m := by
  rw [getTile, loadSpans_tiles, getTile]

/-- A LOAD_TLUT of one row is the load loop (R296). -/
theorem execLoadTlut_one (s : State) (o : TileSizeOps) (h : ¬ o.th.toNat / 4 > o.tl.toNat / 4) :
    execLoadTlut o s = .next (loadSpans (setExtent s o) o.tile (rectKind (setExtent s o) true true) (rectSpans o)) :=
  if_neg h

/-- Whatever a load copies, its tiles are those of the extent write (R291). -/
theorem tiles_of_load {i : Instr} {o : TileSizeOps} {s t : State} (load : i = .loadTile o ∨ i = .loadBlock o ∨ i = .loadTlut o)
    (ht : exec i s = .next t) : t.tiles = (setExtent s o).tiles := by
  rcases load with rfl | rfl | rfl
  · cases ht
    exact loadSpans_tiles ..
  · cases ht
    exact loadSpans_tiles ..
  · by_cases many : o.th.toNat / 4 > o.tl.toNat / 4
    · cases (execLoadTlut_many s o many).symm.trans ht
      split <;> rfl
    · cases (execLoadTlut_one s o many).symm.trans ht
      exact loadSpans_tiles ..

/-! ## The loads that copy -/

/-- The units of a load read main memory and the texture image, which the extent write leaves. -/
@[simp] theorem loadUnits_setExtent (s : State) (o : TileSizeOps) : loadUnits (setExtent s o) = loadUnits s := by
  funext t k n
  induction n with
  | zero => rfl
  | succ n ih =>
    funext r
    rw [loadUnits, loadUnits, ih]
    rfl

@[simp] theorem loadSpan_setExtent (s : State) (o : TileSizeOps) : loadSpan (setExtent s o) = loadSpan s := by
  funext t k tmem p
  rw [loadSpan, loadUnits_setExtent]
  rfl

/-- The load loop from an image that is not 4-bit. -/
theorem loadSpans_of_ne {s : State} (h : s.tiSize ≠ 0) (n : BitVec 3) (k : LoadKind) (ps : List LoadSpan) :
    loadSpans s n k ps = { s with tmem := ps.foldl (loadSpan s (getTile s n) k) s.tmem,
                                  scratch := { s.scratch with spans := storeSpans s.scratch.spans ps } } :=
  if_neg fun zero => h (BitVec.eq_of_toNat_eq zero)

/-- The extent write and the load loop after it, from an image that is not 4-bit. -/
theorem loadSpans_completes (s : State) (o : TileSizeOps) (k : LoadKind) (ps : List LoadSpan) (h : s.tiSize ≠ 0) :
    ∃ t, (.next (loadSpans (setExtent s o) o.tile k ps) : Host.Outcome State Fault Refusal) = .next t ∧
      t = { s with tiles := t.tiles, tmem := t.tmem, scratch := { s.scratch with spans := t.scratch.spans } } ∧
      getTile t o.tile = { getTile s o.tile with sl := o.sl, tl := o.tl, sh := o.sh, th := o.th } ∧
      (∀ n, n ≠ o.tile → getTile t n = getTile s n) ∧
      t.tmem = ps.foldl (loadSpan s (getTile t o.tile) k) s.tmem := by
  refine ⟨_, rfl, ?frame, ?same, fun n hn => ?other, ?copied⟩
  case frame => rw [loadSpans_of_ne (s := setExtent s o) h]; rfl
  case same => rw [getTile_loadSpans, getTile_setExtent_same]
  case other => rw [getTile_loadSpans, getTile_setExtent_of_ne s o hn]
  case copied =>
    rw [getTile_loadSpans, loadSpans_of_ne (s := setExtent s o) h, loadSpan_setExtent]
    rfl

/-- The steps of a rectangle load, in numbers (R293). -/
theorem rectKind_eq (s : State) (quad tlut : Bool) :
    rectKind s quad tlut =
      { ds := (0x200 / 2 ^ s.tiSize.toNat : Nat) * 2 ^ 16, dt := 0, quad := quad, tlut := tlut } := by
  simp [rectKind, asr]

/-- The steps of a block load, in numbers (R294). -/
theorem blockKind_eq (s : State) (o : TileSizeOps) :
    blockKind s o =
      { ds := (0x80 / 2 ^ s.tiSize.toNat : Nat) * 2 ^ 16, dt := (o.th.toNat * 2 ^ 8 : Nat), quad := true, tlut := false } := by
  simp [blockKind, asr, unsigned]

/-- Settles O31: each load is the extent write and the load loop with the increments of its kind. -/
theorem loadCompletes : Obligations.LoadCompletes := by
  intro o s h
  simp only [← rectKind_eq, ← blockKind_eq]
  refine ⟨loadSpans_completes s o _ _ h, loadSpans_completes s o _ _ h, fun one => ?_⟩
  obtain ⟨t, ht, effect⟩ := loadSpans_completes s o (rectKind s true true) (rectSpans o) h
  exact ⟨t, (execLoadTlut_one s o (Nat.not_lt.2 one)).trans ht, effect⟩

/-! ## The loads that copy nothing -/

/-- From a 4-bit image the load loop stores no unit (R297). -/
theorem loadSpans_tmem_of_eq {s : State} (h : s.tiSize = 0) (n : BitVec 3) (k : LoadKind) (ps : List LoadSpan) :
    (loadSpans s n k ps).tmem = s.tmem := by
  have zero : s.tiSize.toNat = 0 := congrArg BitVec.toNat h
  rw [loadSpans, if_pos zero]
  split <;> rfl

/-- The load loop from a 4-bit image, after the extent write. -/
theorem loadSpans_refuses (s : State) (o : TileSizeOps) (k : LoadKind) (ps : List LoadSpan) (h : s.tiSize = 0) :
    (loadSpans (setExtent s o) o.tile k ps).tmem = s.tmem ∧ (loadSpans (setExtent s o) o.tile k ps).ram = s.ram ∧
      (loadSpans (setExtent s o) o.tile k ps).crashed = (s.crashed || s.cfg.loadLockup) := by
  refine ⟨loadSpans_tmem_of_eq (s := setExtent s o) h _ _ _, by rw [loadSpans_frame]; rfl, ?_⟩
  simp [loadSpans_crashed, h]

/-- A LOAD_TLUT of several rows copies nothing (R296). -/
theorem exec_loadTlut_many (o : TileSizeOps) (s : State) (many : o.th.toNat / 4 > o.tl.toNat / 4) :
    ∃ t, exec (.loadTlut o) s = .next t ∧ t.tmem = s.tmem ∧ t.ram = s.ram ∧ t.crashed = (s.crashed || s.cfg.loadLockup) := by
  refine ⟨_, execLoadTlut_many s o many, ?_⟩
  cases lockup : s.cfg.loadLockup
  · exact ⟨rfl, rfl, (Bool.or_false _).symm⟩
  · exact ⟨rfl, rfl, (Bool.or_true _).symm⟩

/-- Settles O32: a load that copies nothing is the load loop from a 4-bit image or a LOAD_TLUT of several rows, and every load
writes the extent. -/
theorem loadRefusals : Obligations.LoadRefusals := by
  refine ⟨fun i s load h => ?fourBit, exec_loadTlut_many, fun i o s t load ht => ?extent⟩
  case fourBit =>
    cases i
    case loadTile o => exact ⟨_, rfl, loadSpans_refuses s o _ _ h⟩
    case loadBlock o => exact ⟨_, rfl, loadSpans_refuses s o _ _ h⟩
    case loadTlut o =>
      by_cases many : o.th.toNat / 4 > o.tl.toNat / 4
      · exact exec_loadTlut_many o s many
      · exact ⟨_, execLoadTlut_one s o many, loadSpans_refuses s o _ _ h⟩
    all_goals cases load
  case extent =>
    have tiles : ∀ n, getTile t n = getTile (setExtent s o) n := fun n => by rw [getTile, tiles_of_load load ht, getTile]
    exact ⟨(tiles _).trans (getTile_setExtent_same s o), fun n hn => (tiles n).trans (getTile_setExtent_of_ne s o hn)⟩

end Sys2Proof.Machine
end


section
/-! How a load places its units in texture memory (44_load_commands.md R297 to R301): a 64-bit unit written at a word of texture
memory, the load index function of an aligned unit, and a run of units at consecutive words. -/

namespace Sys2Proof.Machine

/-! ## A unit written at a word -/

theorem setTmem16_congr (m : Cells Byte) {i j : Int} (h : i % 2048 = j % 2048) (v : Half) :
    setTmem16 m i v = setTmem16 m j v := by
  have same : zext 11 i = zext 11 j := h
  rw [setTmem16, setTmem16, same]

/-- The four halfwords `h 0` to `h 3` at word `w` of texture memory. -/
def setUnit (m : Cells Byte) (w : Int) (h : Nat → Half) : Cells Byte :=
  setTmem16 (setTmem16 (setTmem16 (setTmem16 m (4 * w) (h 0)) (4 * w + 1) (h 1)) (4 * w + 2) (h 2)) (4 * w + 3) (h 3)

theorem tmemWf_setUnit {m : Cells Byte} (hm : Cells.wf (0 : Byte) 4096 m = true) (w : Int) (h : Nat → Half) :
    Cells.wf (0 : Byte) 4096 (setUnit m w h) = true :=
  tmemWf_setTmem16 (tmemWf_setTmem16 (tmemWf_setTmem16 (tmemWf_setTmem16 hm _ _) _ _) _ _) _ _

/-- A unit written at a word puts its halfwords there and leaves every other halfword. -/
theorem tmem16_setUnit {m : Cells Byte} (hm : Cells.wf (0 : Byte) 4096 m = true) (w j : Int) (h : Nat → Half) :
    tmem16 (setUnit m w h) j = if j / 4 % 512 = w % 512 then h (j % 4).toNat else tmem16 m j := by
  have wf0 := tmemWf_setTmem16 hm (4 * w) (h 0)
  have wf1 := tmemWf_setTmem16 wf0 (4 * w + 1) (h 1)
  have wf2 := tmemWf_setTmem16 wf1 (4 * w + 2) (h 2)
  rw [setUnit, tmem16_setTmem16 wf2, tmem16_setTmem16 wf1, tmem16_setTmem16 wf0, tmem16_setTmem16 hm]
  by_cases word : j / 4 % 512 = w % 512
  · rw [if_pos word]
    have column : j % 4 = 0 ∨ j % 4 = 1 ∨ j % 4 = 2 ∨ j % 4 = 3 := by omega
    rcases column with e | e | e | e <;> rw [e]
    · rw [if_neg (by omega), if_neg (by omega), if_neg (by omega), if_pos (by omega)]
      rfl
    · rw [if_neg (by omega), if_neg (by omega), if_pos (by omega)]
      rfl
    · rw [if_neg (by omega), if_pos (by omega)]
      rfl
    · rw [if_pos (by omega)]
      rfl
  · rw [if_neg word, if_neg (by omega), if_neg (by omega), if_neg (by omega), if_neg (by omega)]

/-! ## The load index function -/

/-- Halfword `k` of a unit, counted from its most significant. -/
def unitHalf (q : BitVec 64) (k : Nat) : Half := q.extractLsb' (16 * (3 - k)) 16

/-- What row `y` exchanges: on an odd row the two 32-bit halves of a unit change places, so halfword `k` goes to `k ^^^ 2`
(R301). -/
def rowSwap (y : Int) : Nat := if bitAt y 0 then 2 else 0

theorem rowSwap_cases (y : Int) : (bitAt y 0 = false ∧ rowSwap y = 0) ∨ (bitAt y 0 = true ∧ rowSwap y = 2) := by
  cases h : bitAt y 0 <;> simp [rowSwap, h]

theorem bitAt_zero (y : Int) : bitAt y 0 = decide (y % 2 = 1) := by
  rw [bitAt, Int.pow_zero, Int.ediv_one]
  rfl

theorem rowSwap_congr {y z : Int} (h : y % 2 = z % 2) : rowSwap y = rowSwap z := by
  rw [rowSwap, rowSwap, bitAt_zero, bitAt_zero, h]

theorem rowSwap_natCast (y : Nat) : rowSwap (y : Int) = if y % 2 = 1 then 2 else 0 := by
  have parity : (y : Int) % 2 = 1 ↔ y % 2 = 1 := by omega
  simp only [rowSwap, bitAt_zero, parity, decide_eq_true_eq]

theorem rowSwap_lt (y : Int) : rowSwap y < 4 := by
  rcases rowSwap_cases y with ⟨-, e⟩ | ⟨-, e⟩ <;> omega

/-- The exchange keeps a halfword in its word. -/
theorem xor_rowSwap_lt {k : Nat} (hk : k < 4) (y : Int) : k ^^^ rowSwap y < 4 :=
  Nat.xor_lt_two_pow (n := 2) hk (rowSwap_lt y)

/-- Two exchanges are none. -/
@[simp] theorem xor_rowSwap_twice (k : Nat) (y : Int) : k ^^^ rowSwap y ^^^ rowSwap y = k := by
  rw [Nat.xor_assoc, Nat.xor_self, Nat.xor_zero]

/-- An exchange within a word leaves the word. -/
theorem xor_within_word (w : Nat) {k c : Nat} (hk : k < 4) (hc : c < 4) : (4 * w + k) ^^^ c = 4 * w + (k ^^^ c) := by
  have div : ((4 * w + k) ^^^ c) / 4 = w := by
    have := Nat.xor_div_two_pow (a := 4 * w + k) (b := c) (n := 2)
    rw [show (2 : Nat) ^ 2 = 4 from rfl, show (4 * w + k) / 4 = w by omega, show c / 4 = 0 by omega, Nat.xor_zero] at this
    exact this
  have mod : ((4 * w + k) ^^^ c) % 4 = k ^^^ c := by
    have := Nat.xor_mod_two_pow (a := 4 * w + k) (b := c) (n := 2)
    rw [show (2 : Nat) ^ 2 = 4 from rfl, show (4 * w + k) % 4 = k by omega, show c % 4 = c by omega] at this
    exact this
  omega

/-- The mask of the load index keeps the halfword index of a word. -/
theorem land_word {w : Nat} (hw : w < 512) : Nat.land (4 * w) 0x7fd = 4 * w := by
  have div : (4 * w &&& 0x7fd) / 4 = w := by
    have := Nat.and_div_two_pow (a := 4 * w) (b := 0x7fd) (n := 2)
    rw [show (2 : Nat) ^ 2 = 4 from rfl, show 4 * w / 4 = w by omega, show 0x7fd / 4 = 2 ^ 9 - 1 from rfl,
      Nat.and_two_pow_sub_one_eq_mod, Nat.mod_eq_of_lt (by omega)] at this
    exact this
  have mod : (4 * w &&& 0x7fd) % 4 = 0 := by
    have := Nat.and_mod_two_pow (a := 4 * w) (b := 0x7fd) (n := 2)
    rw [show (2 : Nat) ^ 2 = 4 from rfl, show 4 * w % 4 = 0 by omega, Nat.zero_and] at this
    exact this
  show 4 * w &&& 0x7fd = 4 * w
  omega

/-- A halfword index of the upper half has bit 10 set already. -/
theorem lor_high {v : Nat} (hv : v < 2048) (high : v / 1024 % 2 = 1) : Nat.lor v 0x400 = v := by
  have split : v = 2 ^ 10 * 1 ||| (v - 1024) := by
    rw [← Nat.two_pow_add_eq_or_of_lt (by omega)]
    omega
  show v ||| 0x400 = v
  rw [split, show (2 : Nat) ^ 10 * 1 = 0x400 from rfl, Nat.or_comm, ← Nat.or_assoc, Nat.or_self]

/-- The exchange of an odd row, on the index of halfword `k` of word `w` (R300, 47_texture.md R435). -/
theorem xorBits_rowXor {x : Int} {w k : Nat} (idx : x % 2048 = (4 * w + k : Nat)) (hk : k < 4) (y : Int) :
    xorBits 11 x (rowXor y 2) = (4 * w + (k ^^^ rowSwap y) : Nat) := by
  have swap : (zext 11 (rowXor y 2)).toNat = rowSwap y := by
    rw [rowXor, rowSwap]
    split <;> rfl
  have reduced : (zext 11 x).toNat = 4 * w + k := by
    simp only [zext, Int.reducePow]
    omega
  rw [xorBits, bitwise, reduced, swap]
  exact congrArg _ (xor_within_word w hk (rowSwap_lt y))

section
variable {t : Tile} {ls lt y c : Int} {w : Nat} (col : loadHalf t ls % 2048 = 4 * c % 2048) (row : lt % 512 = y % 512)
  (word : (unsigned t.line * y + unsigned t.tmem + c) % 512 = w)
include col row word

/-- The index of an aligned unit is the first halfword of its word (R300). -/
theorem andBits_loadIdx :
    andBits 11 ((zext 9 (unsigned t.line * lt) + unsigned t.tmem) * 4 + zext 11 (loadHalf t ls)) 0x7fd = (4 * w : Nat) := by
  have base : unsigned t.line * lt % 512 = unsigned t.line * y % 512 := by
    rw [Int.mul_emod, row, ← Int.mul_emod]
  have idx : (zext 11 ((zext 9 (unsigned t.line * lt) + unsigned t.tmem) * 4 + zext 11 (loadHalf t ls))).toNat = 4 * w := by
    simp only [zext, Int.reducePow]
    omega
  rw [andBits, bitwise, idx, show (zext 11 0x7fd).toNat = 0x7fd from rfl, land_word (by omega)]

/-- The four indices of an aligned unit are the four halfwords of its word in order (R300). -/
theorem loadIdx_aligned :
    (loadIdx t ls lt).idx = { q0 := (4 * w : Nat), q1 := (4 * w + 1 : Nat), q2 := (4 * w + 2 : Nat), q3 := (4 * w + 3 : Nat) } ∧
      (loadIdx t ls lt).hibit = bitAt (4 * w : Nat) 10 := by
  have bound : w < 512 := by omega
  have c0 : xorBits 11 ((4 * w : Nat) + 0) (rowXor lt 2) = _ := xorBits_rowXor (w := w) (k := 0) (by omega) (by omega) lt
  have c1 : xorBits 11 ((4 * w : Nat) + 1) (rowXor lt 2) = _ := xorBits_rowXor (w := w) (k := 1) (by omega) (by omega) lt
  have c2 : xorBits 11 ((4 * w : Nat) + 2) (rowXor lt 2) = _ := xorBits_rowXor (w := w) (k := 2) (by omega) (by omega) lt
  have c3 : xorBits 11 ((4 * w : Nat) + 3) (rowXor lt 2) = _ := xorBits_rowXor (w := w) (k := 3) (by omega) (by omega) lt
  rw [rowXor] at c0 c1 c2 c3
  refine ⟨?_, ?_⟩
  · simp only [loadIdx, andBits_loadIdx col row word, c0, c1, c2, c3]
    rcases rowSwap_cases lt with ⟨-, e⟩ | ⟨-, e⟩
    · rw [e]
      simp [zext]

    · rw [e]
      simp [zext]
  · simp only [loadIdx, andBits_loadIdx col row word]

end

/-- Storing into the upper half leaves the index of a halfword that is there already (R301). -/
theorem orBits_of_hibit {w k : Nat} (hw : w < 512) (hk : k < 4) :
    (if bitAt (4 * w : Nat) 10 then orBits 11 (4 * w + k : Nat) 0x400 else ((4 * w + k : Nat) : Int)) = (4 * w + k : Nat) := by
  split
  · rename_i high
    have reduced : (zext 11 (4 * w + k : Nat)).toNat = 4 * w + k := by
      simp only [zext, Int.reducePow]
      omega
    simp only [bitAt, Int.reducePow, beq_iff_eq] at high
    rw [orBits, bitwise, reduced, show (zext 11 0x400).toNat = 0x400 from rfl, lor_high (by omega) (by omega)]
  · rfl

/-- The halfwords as row `y` stores them: unit `q` with the exchange of an odd row. -/
def storedHalf (y : Int) (q : BitVec 64) (k : Nat) : Half := unitHalf q (k ^^^ rowSwap y)

theorem storedHalf_congr {y z : Int} (h : y % 2 = z % 2) (q : BitVec 64) : storedHalf y q = storedHalf z q := by
  funext k
  rw [storedHalf, storedHalf, rowSwap_congr h]

/-- The four halfwords TmemStore writes, in the order of its indices (R301). -/
theorem storedHalf_tuple (y : Int) (q : BitVec 64) :
    (if bitAt y 0 then (q.extractLsb' (16 * 1) 16, q.extractLsb' (16 * 0) 16, q.extractLsb' (16 * 3) 16, q.extractLsb' (16 * 2) 16)
      else (q.extractLsb' (16 * 3) 16, q.extractLsb' (16 * 2) 16, q.extractLsb' (16 * 1) 16, q.extractLsb' (16 * 0) 16)) =
      (storedHalf y q 0, storedHalf y q 1, storedHalf y q 2, storedHalf y q 3) := by
  simp only [storedHalf]
  rcases rowSwap_cases y with ⟨even, swap⟩ | ⟨odd, swap⟩
  · rw [even, swap]
    rfl
  · rw [odd, swap]
    rfl

/-- A unit of an ordinary tile whose column is whole 64-bit words is one word written (R300, R301). -/
theorem tmemStore_aligned {t : Tile} (cls : loadClass t = 2) {ls lt y c : Int} (col : loadHalf t ls % 2048 = 4 * c % 2048)
    (row : lt % 512 = y % 512) (m : Cells Byte) (q : BitVec 64) :
    tmemStore m t ls lt q = setUnit m (unsigned t.line * y + unsigned t.tmem + c) (storedHalf y q) := by
  obtain ⟨w, word⟩ : ∃ w : Nat, (unsigned t.line * y + unsigned t.tmem + c) % 512 = w :=
    ⟨_, (Int.toNat_of_nonneg (Int.emod_nonneg _ (by omega))).symm⟩
  have hw : w < 512 := by omega
  have idx : ∀ k : Nat, (4 * w + k : Nat) % 2048 = (4 * (unsigned t.line * y + unsigned t.tmem + c) + k) % 2048 := by omega
  obtain ⟨halves, hibit⟩ := loadIdx_aligned col row word
  have place0 := orBits_of_hibit hw (k := 0) (by omega)
  have place1 := orBits_of_hibit hw (k := 1) (by omega)
  have place2 := orBits_of_hibit hw (k := 2) (by omega)
  have place3 := orBits_of_hibit hw (k := 3) (by omega)
  simp only [Nat.add_zero] at place0
  simp only [tmemStore, if_pos cls, halves, hibit, place0, place1, place2, place3, storedHalf_tuple]
  have first : (4 * w : Nat) % 2048 = (4 * (unsigned t.line * y + unsigned t.tmem + c)) % 2048 := by omega
  rw [setTmem16_congr m first, setTmem16_congr _ (idx 1), setTmem16_congr _ (idx 2), setTmem16_congr _ (idx 3),
    storedHalf_congr (show lt % 2 = y % 2 by omega)]
  rfl

/-! ## A run of units at consecutive words -/

/-- Texture memory `m'` is `m` with `n` units stored at consecutive words from `w0`, unit `i` as the halfwords `v i`. -/
structure UnitsStored (w0 : Int) (v : Nat → Nat → Half) (m m' : Cells Byte) (n : Nat) : Prop where
  wf : Cells.wf (0 : Byte) 4096 m' = true
  stored : ∀ i < n, ∀ j : Int, j / 4 % 512 = (w0 + i) % 512 → tmem16 m' j = v i (j % 4).toNat
  kept : ∀ j : Int, (∀ i < n, j / 4 % 512 ≠ (w0 + i) % 512) → tmem16 m' j = tmem16 m j

section
variable {w0 : Int} {v : Nat → Nat → Half} {m m' : Cells Byte} {n : Nat}

theorem UnitsStored.zero (hm : Cells.wf (0 : Byte) 4096 m = true) : UnitsStored w0 v m m 0 where
  wf := hm
  stored i hi := absurd hi (Nat.not_lt_zero i)
  kept _ _ := rfl

/-- One unit more, at the next word; up to 512 units none falls on another. -/
theorem UnitsStored.succ (h : UnitsStored w0 v m m' n) (fits : n < 512) :
    UnitsStored w0 v m (setUnit m' (w0 + n) (v n)) (n + 1) where
  wf := tmemWf_setUnit h.wf _ _
  stored i hi j hj := by
    rw [tmem16_setUnit h.wf]
    by_cases last : i = n
    · rw [if_pos (last ▸ hj), last]
    · rw [if_neg (by omega), h.stored i (by omega) j hj]
  kept j hj := by
    rw [tmem16_setUnit h.wf, if_neg (hj n (by omega)), h.kept j fun i hi => hj i (by omega)]

/-- A word of the run. -/
theorem UnitsStored.word {w : Nat} (h : UnitsStored (w : Int) v m m' n) {i : Nat} (hi : i < n) :
    tmem64 m' ((w + i : Nat) : Int) = v i 0 ++ v i 1 ++ v i 2 ++ v i 3 := by
  have half : ∀ (j : Int) (k : Nat), j = 4 * zext 9 (w + i : Nat) + k → k < 4 → tmem16 m' j = v i k := fun j k hj hk => by
    simp only [zext] at hj
    rw [h.stored i hi j (by omega), show (j % 4).toNat = k by omega]
  rw [tmem64, half _ 0 (by omega) (by omega), half _ 1 (by omega) (by omega), half _ 2 (by omega) (by omega),
    half _ 3 (by omega) (by omega)]

/-- A word outside the run. -/
theorem UnitsStored.word_kept {w : Nat} (h : UnitsStored (w : Int) v m m' n) {k : Nat} (hk : k < 512)
    (outside : ∀ i < n, k ≠ (w + i) % 512) : tmem64 m' (k : Int) = tmem64 m (k : Int) := by
  have half : ∀ j : Int, j / 4 = zext 9 k → tmem16 m' j = tmem16 m j := fun j word =>
    h.kept j fun i hi => by
      have := outside i hi
      simp only [zext] at word
      omega
  rw [tmem64, half _ (by omega), half _ (by omega), half _ (by omega), half _ (by omega), tmem64]

end

/-! ## The registers of the load loop -/

/-- Sign extension keeps the bits it extends. -/
@[simp] theorem sext_emod (n : Nat) (v : Int) : sext n v % 2 ^ n = v % 2 ^ n := by
  simp only [sext]
  split
  · rw [Int.sub_emod_right, Int.emod_emod]
  · exact Int.emod_emod ..

/-- A coordinate register whose value stands above five fraction bits advances by its step (R297). -/
theorem clearLow_step {x y d : Int} (reg : x % 2 ^ 32 = y % 2 ^ 32) (hy : y % 32 = 0) (hd : d % 32 = 0) :
    clearLow (sext 32 (x + d)) 5 % 2 ^ 32 = (y + d) % 2 ^ 32 := by
  have wrap := sext_emod 32 (x + d)
  simp only [clearLow]
  omega

/-- The registers of a load loop after `u` units of the span `p`; its coordinates are 32-bit registers. -/
structure RegsAt (s : State) (k : LoadKind) (p : LoadSpan) (u : Nat) (r : LoadRegs) : Prop where
  regS : r.s % 2 ^ 32 = (p.s + u * k.ds) % 2 ^ 32
  regT : r.t % 2 ^ 32 = (p.t + u * k.dt) % 2 ^ 32
  source : r.tiptr = spanSource s p + u * unitBytes s k.tlut

/-- The starts and the steps of a span's coordinates have no bits below the five fraction bits (R297). -/
structure SpanAligned (k : LoadKind) (p : LoadSpan) : Prop where
  s : p.s % 32 = 0
  t : p.t % 32 = 0
  ds : k.ds % 32 = 0
  dt : k.dt % 32 = 0

theorem RegsAt.start (s : State) (k : LoadKind) (p : LoadSpan) (tmem : Cells Byte) :
    RegsAt s k p 0 { s := p.s, t := p.t, tiptr := spanSource s p, tmem := tmem } where
  regS := by simp
  regT := by simp
  source := by simp

theorem RegsAt.loadUnit {s : State} {k : LoadKind} {p : LoadSpan} {u : Nat} {r : LoadRegs} (al : SpanAligned k p)
    (h : RegsAt s k p u r) (t : Tile) : RegsAt s k p (u + 1) (loadUnit s t k r) where
  regS := by
    have whole : (p.s + u * k.ds) % 32 = 0 := by
      rw [Int.add_emod, Int.mul_emod, al.s, al.ds]
      simp
    rw [Machine.loadUnit, clearLow_step h.regS whole al.ds]
    rw [Int.natCast_succ, Int.add_mul, Int.one_mul, Int.add_assoc]
  regT := by
    have whole : (p.t + u * k.dt) % 32 = 0 := by
      rw [Int.add_emod, Int.mul_emod, al.t, al.dt]
      simp
    rw [Machine.loadUnit, clearLow_step h.regT whole al.dt]
    rw [Int.natCast_succ, Int.add_mul, Int.one_mul, Int.add_assoc]
  source := by
    rw [Machine.loadUnit, h.source, Int.natCast_succ, Int.add_mul, Int.one_mul, Int.add_assoc]

/-- The units of a span are stored one after another, if every one of them is one word written, the next after the run so far. -/
theorem UnitsStored.loadSpan {w0 : Int} {v : Nat → Nat → Half} {m m' : Cells Byte} {n N : Nat} {s : State} {t : Tile}
    {k : LoadKind} {p : LoadSpan} (h : UnitsStored w0 v m m' n) (al : SpanAligned k p) (units : spanUnits s k p = N)
    (fits : n + N ≤ 512)
    (unit : ∀ u < N, ∀ r, RegsAt s k p u r →
      (Machine.loadUnit s t k r).tmem = setUnit r.tmem (w0 + (n + u : Nat)) (v (n + u))) :
    UnitsStored w0 v m (Machine.loadSpan s t k m' p) (n + N) := by
  have run : ∀ N' u r, u + N' = N → RegsAt s k p u r → UnitsStored w0 v m r.tmem (n + u) →
      UnitsStored w0 v m (loadUnits s t k N' r).tmem (n + N) := by
    intro N'
    induction N' with
    | zero =>
      intro u r len regs stored
      rw [← len]
      exact stored
    | succ N' ih =>
      intro u r len regs stored
      refine ih (u + 1) _ (by omega) (regs.loadUnit al t) ?_
      rw [unit u (by omega) r regs]
      exact stored.succ (by omega)
  rw [Machine.loadSpan, units]
  exact run N 0 _ (Nat.zero_add N) (RegsAt.start s k p m') h

/-- A coordinate of the load loop: how far register `x` stands past the tile's origin (R299). -/
def loadCoord (quad : Bool) (org : BitVec 12) (x : Int) : Int :=
  asr (sext 16 (asr x 16) - unsigned org * 8) (if quad then 3 else 5)

theorem loadUnit_tmem (s : State) (t : Tile) (k : LoadKind) (r : LoadRegs) :
    (loadUnit s t k r).tmem =
      tmemStore r.tmem t (loadCoord k.quad t.sl r.s) (loadCoord k.quad t.tl r.t) (loadQword s r.tiptr k.tlut) := rfl

section
variable {x d : Int} {org : BitVec 12} (reg : x % 2 ^ 32 = (unsigned org * 8 * 2 ^ 16 + d) % 2 ^ 32)
include reg

/-- The distance from the origin in the units of the upper half of the register. -/
theorem sext_sub_origin : (sext 16 (asr x 16) - unsigned org * 8) % 2 ^ 16 = d / 2 ^ 16 % 2 ^ 16 := by
  rw [asr, Int.sub_emod, sext_emod]
  omega

/-- The coordinates of LOAD_BLOCK and LOAD_TLUT count eighths of the upper half's units. -/
theorem loadCoord_quad : loadCoord true org x % 2 ^ 13 = d / 2 ^ 19 % 2 ^ 13 := by
  have far := sext_sub_origin reg
  rw [loadCoord, if_pos rfl, asr]
  omega

/-- The coordinates of LOAD_TILE count whole texels. -/
theorem loadCoord_whole : loadCoord false org x % 2 ^ 11 = d / 2 ^ 21 % 2 ^ 11 := by
  have far := sext_sub_origin reg
  rw [loadCoord, if_neg Bool.false_ne_true, asr]
  omega

end

/-! ## The halfwords of a source unit -/

/-- A unit of four halfwords has them at their places. -/
theorem unitHalf_append (h : Nat → Half) {k : Nat} (hk : k < 4) : unitHalf (h 0 ++ h 1 ++ h 2 ++ h 3) k = h k := by
  have below : ∀ {n : Nat} (x : BitVec n) (y : Half) (i : Nat), (x ++ y).extractLsb' (i + 16) 16 = x.extractLsb' i 16 :=
    fun x y i => by rw [BitVec.extractLsb'_append_eq_of_le (by omega), Nat.add_sub_cancel]
  have last : ∀ {n : Nat} (x : BitVec n) (y : Half), (x ++ y).extractLsb' 0 16 = y :=
    fun x y => BitVec.extractLsb'_append_eq_right
  have column : k = 0 ∨ k = 1 ∨ k = 2 ∨ k = 3 := by omega
  rcases column with rfl | rfl | rfl | rfl
  · exact (below _ _ 32).trans ((below _ _ 16).trans ((below _ _ 0).trans (extract_self (h 0))))
  · exact (below _ _ 16).trans ((below _ _ 0).trans (last _ _))
  · exact (below _ _ 0).trans (last _ _)
  · exact last _ _

/-- A unit of eight consecutive bytes is four consecutive texels (R298). -/
theorem unitHalf_loadQword (s : State) (p : Int) {tlut : Bool} (plain : ¬ (tlut = true ∧ zext 1 p = 0)) {k : Nat} (hk : k < 4) :
    unitHalf (loadQword s p tlut) k = texelHalf s (p + 2 * k) := by
  have unit : loadQword s p tlut = texelHalf s (p + 2 * 0) ++ texelHalf s (p + 2 * 1) ++ texelHalf s (p + 2 * 2) ++
      texelHalf s (p + 2 * 3) := by
    simp only [loadQword, if_neg plain, texelHalf, append_halves, Int.add_assoc]
    rfl
  rw [unit]
  exact unitHalf_append (fun k => texelHalf s (p + 2 * k)) hk

/-- The texel row `y` stores as halfword `k` of a unit of four. -/
theorem storedHalf_loadQword (s : State) (p y : Int) {tlut : Bool} (plain : ¬ (tlut = true ∧ zext 1 p = 0)) {k : Nat}
    (hk : k < 4) : storedHalf y (loadQword s p tlut) k = texelHalf s (p + 2 * (k ^^^ rowSwap y : Nat)) :=
  unitHalf_loadQword s p plain (xor_rowSwap_lt hk y)

/-- A palette entry at an even address is one texel four times (R298). -/
theorem unitHalf_loadQword_even (s : State) {p : Int} (even : zext 1 p = 0) {k : Nat} (hk : k < 4) :
    unitHalf (loadQword s p true) k = texelHalf s p := by
  have unit : loadQword s p true = texelHalf s p ++ texelHalf s p ++ texelHalf s p ++ texelHalf s p := by
    simp only [loadQword, even, and_self, if_true, Int.add_zero]
    rfl
  rw [unit]
  exact unitHalf_append (fun _ => texelHalf s p) hk

end Sys2Proof.Machine
end


section
/-! What the three loads leave in texture memory from a 16-bit image through a tile that is not YUV (44_load_commands.md R293 to
R303): each is one run of units at consecutive words, the words of a LOAD_TILE row after row. -/

namespace Sys2Proof.Machine

/-! ## Spans and tiles -/

theorem sext_add_emod (v d : Int) : (sext 32 v + d) % 2 ^ 32 = (v + d) % 2 ^ 32 := by
  rw [Int.add_emod, sext_emod, ← Int.add_emod]

/-- A sign-extended multiple of 32 is one. -/
theorem sext_aligned {v : Int} (h : v % 32 = 0) : sext 32 v % 32 = 0 := by
  have := sext_emod 32 v
  omega

/-- The ordinary store class (R297): neither YUV nor 32-bit. -/
theorem loadClass_ordinary {t : Tile} (format : t.format ≠ 1) (size : t.size ≠ 3) : loadClass t = 2 := by
  have yuv : ¬ t.format.toNat = 1 := fun h => format (BitVec.eq_of_toNat_eq h)
  have wide : ¬ (t.format.toNat = 0 ∧ t.size.toNat = 3) := fun h => size (BitVec.eq_of_toNat_eq h.2)
  rw [loadClass, if_neg yuv, if_neg wide]

/-- A column of a 16-bit tile is a halfword (R300). -/
theorem loadHalf_of_half {t : Tile} (format : t.format ≠ 1) (half : t.size = 2) (ls : Int) : loadHalf t ls = ls := by
  have yuv : ¬ t.format.toNat = 1 := fun h => format (BitVec.eq_of_toNat_eq h)
  simp [loadHalf, half, yuv]

/-- Four columns of a 4-bit tile are a halfword (R300). -/
theorem loadHalf_of_nibble {t : Tile} (format : t.format ≠ 1) (nibble : t.size = 0) (ls : Int) : loadHalf t ls = asr ls 2 := by
  have yuv : ¬ t.format.toNat = 1 := fun h => format (BitVec.eq_of_toNat_eq h)
  simp [loadHalf, nibble, yuv]

@[simp] theorem unitBytes_plain (s : State) : unitBytes s false = 8 :=
  if_neg fun h => Bool.false_ne_true h.2

theorem unitBytes_tlut {s : State} (size : s.tiSize = 2) : unitBytes s true = 2 := by
  simp [unitBytes, size]

theorem unitTexels_halves {s : State} (size : s.tiSize = 2) (tlut : Bool) : unitTexels s tlut = if tlut then 1 else 4 := by
  simp [unitTexels, size]

/-- The units of a span of `len` texels (R297). -/
theorem spanUnits_of_length (s : State) (k : LoadKind) {p : LoadSpan} {len : Nat} (length : p.lx - p.unscrx + 1 = len)
    (small : len < 4096) : spanUnits s k p = (len + unitTexels s k.tlut - 1) / unitTexels s k.tlut := by
  have texels : (zext 12 (len : Int)).toNat = len := by
    rw [zext]
    omega
  rw [spanUnits, length, texels]

/-- The byte address of the first unit of a span of a 16-bit image (R297). -/
theorem spanSource_halves {s : State} (size : s.tiSize = 2) (p : LoadSpan) :
    spanSource s p = s.tiAddress.toNat + 2 * (s.tiWidth.toNat * p.row + p.unscrx) := by
  have two : s.tiSize.toNat = 2 := congrArg BitVec.toNat size
  rw [spanSource, two]
  simp only [unsigned, asr]
  omega

/-! ## LOAD_BLOCK -/

/-- The one span of LOAD_BLOCK (R294). -/
def blockSpan (o : TileSizeOps) : LoadSpan :=
  { row := zext 10 (unsigned o.tl), lx := unsigned o.sh, rx := unsigned o.sl, unscrx := unsigned o.sl,
    s := sext 32 (unsigned o.sl * 8 * 2 ^ 16), t := sext 32 (unsigned o.tl * 8 * 2 ^ 16) }

theorem blockSpans_eq (o : TileSizeOps) : blockSpans o = [blockSpan o] := rfl

/-- The halfwords of unit `u` of a block in texture memory. -/
def blockHalf (s : State) (o : TileSizeOps) (u : Nat) : Nat → Half :=
  storedHalf (u * o.th.toNat / 2048 : Nat) (loadQword s (spanSource s (blockSpan o) + u * 8) false)

section
variable {s : State} {o : TileSizeOps} (size : s.tiSize = 2)
include size

theorem blockKind_halves :
    blockKind s o = { ds := 32 * 2 ^ 16, dt := (o.th.toNat * 2 ^ 8 : Nat), quad := true, tlut := false } := by
  rw [blockKind_eq, size]
  rfl

theorem spanAligned_block : SpanAligned (blockKind s o) (blockSpan o) := by
  rw [blockKind_halves size]
  have steps : ((o.th.toNat * 2 ^ 8 : Nat) : Int) % 32 = 0 := by omega
  exact ⟨sext_aligned (by omega), sext_aligned (by omega), rfl, steps⟩

/-- A unit of a block is the next word, of the row its number and DXT give. -/
theorem loadUnit_block {t : Tile} (format : t.format ≠ 1) (half : t.size = 2) (line : t.line = 0) (sl : t.sl = o.sl)
    (tl : t.tl = o.tl) {u : Nat} {r : LoadRegs} (regs : RegsAt s (blockKind s o) (blockSpan o) u r) :
    (loadUnit s t (blockKind s o) r).tmem = setUnit r.tmem (unsigned t.tmem + u) (blockHalf s o u) := by
  obtain ⟨regS, regT, source⟩ := regs
  rw [blockKind_halves size] at regS regT source ⊢
  have ls : loadCoord true t.sl r.s % 2 ^ 13 = u * (32 * 2 ^ 16) / 2 ^ 19 % 2 ^ 13 :=
    loadCoord_quad (by rw [regS, sl]; exact sext_add_emod ..)
  have lt : loadCoord true t.tl r.t % 2 ^ 13 = u * (o.th.toNat * 2 ^ 8 : Nat) / 2 ^ 19 % 2 ^ 13 :=
    loadCoord_quad (by rw [regT, tl]; exact sext_add_emod ..)
  have col : loadHalf t (loadCoord true t.sl r.s) % 2048 = 4 * (u : Int) % 2048 := by
    rw [loadHalf_of_half format half]
    omega
  have row : loadCoord true t.tl r.t % 512 = (u * o.th.toNat / 2048 : Nat) % 512 := by
    have : (u : Int) * (o.th.toNat * 2 ^ 8 : Nat) = (u * o.th.toNat : Nat) * 2 ^ 8 := by
      rw [← Int.natCast_mul, ← Nat.mul_assoc]
      omega
    omega
  rw [loadUnit_tmem, tmemStore_aligned (loadClass_ordinary format (by rw [half]; decide)) col row, line, source,
    unitBytes_plain, show unsigned (0 : BitVec 9) = 0 from rfl, Int.zero_mul, Int.zero_add]
  rfl

/-- The units of a block are consecutive words of texture memory. -/
theorem unitsStored_block {t : Tile} (format : t.format ≠ 1) (half : t.size = 2) (line : t.line = 0) (sl : t.sl = o.sl)
    (tl : t.tl = o.tl) {n : Nat} (order : o.sl.toNat ≤ o.sh.toNat) (len : n = (o.sh.toNat - o.sl.toNat) / 4 + 1) (fits : n ≤ 512)
    {m : Cells Byte} (wf : Cells.wf (0 : Byte) 4096 m = true) :
    UnitsStored (unsigned t.tmem) (blockHalf s o) m (loadSpan s t (blockKind s o) m (blockSpan o)) n := by
  have units : spanUnits s (blockKind s o) (blockSpan o) = n := by
    have length : (blockSpan o).lx - (blockSpan o).unscrx + 1 = (o.sh.toNat - o.sl.toNat + 1 : Nat) := by
      simp only [blockSpan, unsigned]
      omega
    rw [spanUnits_of_length s _ length (by omega), blockKind, unitTexels_halves size, if_neg Bool.false_ne_true]
    omega
  have run := (UnitsStored.zero (w0 := unsigned t.tmem) (v := blockHalf s o) wf).loadSpan (spanAligned_block size) units
    (by omega) fun u _ r regs => by
      rw [Nat.zero_add]
      exact loadUnit_block size format half line sl tl regs
  rwa [Nat.zero_add] at run

end

/-- The texel a block's unit `u` has at halfword `k` of its word. -/
theorem blockHalf_eq {s : State} (size : s.tiSize = 2) (o : TileSizeOps) (u : Nat) {k : Nat} (hk : k < 4) :
    blockHalf s o u k =
      texelHalf s ((s.tiAddress.toNat + 2 * (s.tiWidth.toNat * (o.tl.toNat % 1024) + o.sl.toNat) + 8 * u +
        2 * (k ^^^ if u * o.th.toNat / 2048 % 2 = 1 then 2 else 0) : Nat) : Int) := by
  have row : (blockSpan o).row = (o.tl.toNat % 1024 : Nat) := by
    simp only [blockSpan, zext, unsigned]
    omega
  rw [blockHalf, storedHalf_loadQword s _ _ (fun h => Bool.false_ne_true h.1) hk, rowSwap_natCast, spanSource_halves size, row]
  congr 1
  simp only [blockSpan, unsigned]
  omega

/-- Settles O34: the units of the one span are consecutive words, each read back as the texels its row stored. -/
theorem loadBlockExact : Obligations.LoadBlockExact := by
  intro o s n wf size half format line order len fits
  obtain ⟨-, ⟨t, ht, -, tile, -, copied⟩, -⟩ := loadCompletes o s (by rw [size]; decide)
  rw [← blockKind_eq, blockSpans_eq, List.foldl_cons, List.foldl_nil] at copied
  have run := unitsStored_block (t := getTile t o.tile) size (by rw [tile]; exact format) (by rw [tile]; exact half)
    (by rw [tile]; exact line) (by rw [tile]) (by rw [tile]) order len fits wf
  rw [← copied, show (getTile t o.tile).tmem = (getTile s o.tile).tmem by rw [tile]] at run
  refine ⟨t, ht, fun u hu => ?_, fun k hk outside => run.word_kept hk outside⟩
  rw [UnitsStored.word run hu, blockHalf_eq size o u (k := 0) (by omega), blockHalf_eq size o u (k := 1) (by omega),
    blockHalf_eq size o u (k := 2) (by omega), blockHalf_eq size o u (k := 3) (by omega)]
  by_cases odd : u * o.th.toNat / 2048 % 2 = 1
  · simp only [if_pos odd]
    rfl
  · simp only [if_neg odd]
    rfl

/-! ## Rectangles -/

/-- The span of row `y` of a rectangle, counted from its top, in a rectangle with a valid sub-scanline (R293). -/
def rectSpan (o : TileSizeOps) (y : Nat) : LoadSpan :=
  { row := (o.tl.toNat / 4 + y : Nat), lx := (o.sh.toNat / 4 : Nat), rx := (o.sl.toNat / 4 : Nat),
    unscrx := (o.sl.toNat / 4 : Nat), s := sext 32 (unsigned o.sl * 8 * 2 ^ 16),
    t := sext 32 (unsigned o.tl * 8 * 2 ^ 16 + y * 2 ^ 21) }

/-- One span per row, if a sub-scanline is valid (R293). -/
theorem rectSpans_eq (o : TileSizeOps) (valid : o.tl.toNat < o.th.toNat / 4 * 4 + 3) {h : Nat}
    (rows : h = o.th.toNat / 4 + 1 - o.tl.toNat / 4) : rectSpans o = (List.range h).map (rectSpan o) := by
  have any : decide (unsigned o.tl < clearLow (unsigned o.th) 2 + 3) = true := decide_eq_true <| by
    simp only [unsigned, clearLow]
    omega
  have count : (asr (unsigned o.th) 2 - asr (unsigned o.tl) 2 + 1).toNat = h := by
    simp only [asr_unsigned]
    omega
  simp only [rectSpans, any, if_true, rangeTo, count, List.map_map]
  refine List.map_congr_left fun y _ => ?_
  have start : (unsigned o.tl * 8 + 0x20 * (asr (unsigned o.tl) 2 + y - asr (unsigned o.tl) 2)) * 2 ^ 16 =
      unsigned o.tl * 8 * 2 ^ 16 + y * 2 ^ 21 := by omega
  simp only [rectSpan, Function.comp, start]
  simp only [asr_unsigned]
  rfl

/-- The units of every row of a rectangle that is not inverted. -/
theorem spanUnits_rect (s : State) (k : LoadKind) {o : TileSizeOps} (order : o.sl.toNat / 4 ≤ o.sh.toNat / 4) (y : Nat) :
    spanUnits s k (rectSpan o y) =
      (o.sh.toNat / 4 - o.sl.toNat / 4 + 1 + unitTexels s k.tlut - 1) / unitTexels s k.tlut := by
  have length : (rectSpan o y).lx - (rectSpan o y).unscrx + 1 = (o.sh.toNat / 4 - o.sl.toNat / 4 + 1 : Nat) := by
    simp only [rectSpan]
    omega
  exact spanUnits_of_length s k length (by omega)

section
variable {s : State} {o : TileSizeOps} (size : s.tiSize = 2)
include size

theorem rectKind_halves (quad tlut : Bool) :
    rectKind s quad tlut = { ds := 128 * 2 ^ 16, dt := 0, quad := quad, tlut := tlut } := by
  rw [rectKind_eq, size]
  rfl

theorem spanAligned_rect (quad tlut : Bool) (y : Nat) : SpanAligned (rectKind s quad tlut) (rectSpan o y) := by
  rw [rectKind_halves size]
  exact ⟨sext_aligned (by omega), sext_aligned (by omega), rfl, rfl⟩

/-- The registers of a rectangle's row `y` before its unit `u`, from the tile's origin. -/
theorem RegsAt.rect {quad tlut : Bool} {y u : Nat} {r : LoadRegs} (regs : RegsAt s (rectKind s quad tlut) (rectSpan o y) u r) :
    r.s % 2 ^ 32 = (unsigned o.sl * 8 * 2 ^ 16 + u * (128 * 2 ^ 16)) % 2 ^ 32 ∧
      r.t % 2 ^ 32 = (unsigned o.tl * 8 * 2 ^ 16 + y * 2 ^ 21) % 2 ^ 32 := by
  obtain ⟨regS, regT, -⟩ := regs
  rw [rectKind_halves size] at regS regT
  refine ⟨regS.trans (sext_add_emod ..), regT.trans ((sext_add_emod ..).trans ?_)⟩
  rw [Int.mul_zero, Int.add_zero]

/-! ## LOAD_TLUT -/

/-- The halfwords of palette entry `u` in texture memory. -/
def tlutHalf (s : State) (o : TileSizeOps) (u : Nat) : Nat → Half :=
  storedHalf 0 (loadQword s (spanSource s (rectSpan o 0) + u * 2) true)

/-- A palette entry is the next word, in row 0. -/
theorem loadUnit_tlut {t : Tile} (format : t.format ≠ 1) (nibble : t.size = 0) (sl : t.sl = o.sl) (tl : t.tl = o.tl) {u : Nat}
    {r : LoadRegs} (regs : RegsAt s (rectKind s true true) (rectSpan o 0) u r) :
    (loadUnit s t (rectKind s true true) r).tmem = setUnit r.tmem (unsigned t.tmem + u) (tlutHalf s o u) := by
  obtain ⟨regS, regT⟩ := regs.rect size
  have ls := loadCoord_quad regS
  have lt := loadCoord_quad regT
  rw [← sl] at ls
  rw [← tl] at lt
  have col : loadHalf t (loadCoord true t.sl r.s) % 2048 = 4 * (u : Int) % 2048 := by
    rw [loadHalf_of_nibble format nibble, asr]
    omega
  have row : loadCoord true t.tl r.t % 512 = 0 % 512 := by omega
  have stored := tmemStore_aligned (loadClass_ordinary format (by rw [nibble]; decide)) col row r.tmem
    (loadQword s r.tiptr true)
  rw [regs.source, Int.mul_zero, Int.zero_add] at stored
  rw [loadUnit_tmem, regs.source]
  exact stored.trans (by rw [tlutHalf, rectKind, unitBytes_tlut size])

/-- The entries of a palette row are consecutive words of texture memory. -/
theorem unitsStored_tlut {t : Tile} (format : t.format ≠ 1) (nibble : t.size = 0) (sl : t.sl = o.sl) (tl : t.tl = o.tl) {n : Nat}
    (order : o.sl.toNat / 4 ≤ o.sh.toNat / 4) (len : n = o.sh.toNat / 4 - o.sl.toNat / 4 + 1) (fits : n ≤ 512)
    {m : Cells Byte} (wf : Cells.wf (0 : Byte) 4096 m = true) :
    UnitsStored (unsigned t.tmem) (tlutHalf s o) m (loadSpan s t (rectKind s true true) m (rectSpan o 0)) n := by
  have units : spanUnits s (rectKind s true true) (rectSpan o 0) = n := by
    rw [spanUnits_rect s _ order, rectKind, unitTexels_halves size, if_pos rfl]
    omega
  have run := (UnitsStored.zero (w0 := unsigned t.tmem) (v := tlutHalf s o) wf).loadSpan (spanAligned_rect size true true 0)
    units (by omega) fun u _ r regs => by
      rw [Nat.zero_add]
      exact loadUnit_tlut size format nibble sl tl regs
  rwa [Nat.zero_add] at run

end

/-- The halfwords of a palette entry: four copies from an even address, eight bytes in a row from an odd one. -/
theorem tlutHalf_eq {s : State} (size : s.tiSize = 2) (o : TileSizeOps) (u : Nat) {k : Nat} (hk : k < 4) {p : Nat}
    (src : p = s.tiAddress.toNat + 2 * (s.tiWidth.toNat * (o.tl.toNat / 4) + o.sl.toNat / 4 + u)) :
    tlutHalf s o u k = texelHalf s ((p + if p % 2 = 0 then 0 else 2 * k : Nat) : Int) := by
  have source : spanSource s (rectSpan o 0) + u * 2 = (p : Int) := by
    rw [spanSource_halves size, src]
    simp only [rectSpan, Nat.add_zero]
    omega
  rw [tlutHalf, source]
  split
  · rename_i even
    have zero : zext 1 (p : Int) = 0 := by
      simp only [zext]
      omega
    exact unitHalf_loadQword_even s zero (xor_rowSwap_lt hk 0)
  · rename_i odd
    have plain : ¬ (true = true ∧ zext 1 (p : Int) = 0) := by
      simp only [zext]
      omega
    rw [storedHalf_loadQword s _ _ plain hk, show rowSwap 0 = 0 from rfl, Nat.xor_zero]
    rfl

/-- Settles O35: the entries of the one row are consecutive words, each read back as its copies or its bytes. -/
theorem loadTlutExact : Obligations.LoadTlutExact := by
  intro o s n wf size nibble format oneRow valid order len fits
  obtain ⟨-, -, one⟩ := loadCompletes o s (by rw [size]; decide)
  obtain ⟨t, ht, -, tile, -, copied⟩ := one (by omega)
  rw [← rectKind_eq, rectSpans_eq o valid (h := 1) (by omega)] at copied
  have run := unitsStored_tlut (t := getTile t o.tile) size (by rw [tile]; exact format) (by rw [tile]; exact nibble)
    (by rw [tile]) (by rw [tile]) order len fits wf
  replace copied : t.tmem = loadSpan s (getTile t o.tile) (rectKind s true true) s.tmem (rectSpan o 0) := copied
  rw [← copied, show (getTile t o.tile).tmem = (getTile s o.tile).tmem by rw [tile]] at run
  refine ⟨t, ht, fun k hk => ?_, fun j hj outside => run.word_kept hj outside⟩
  intro p h
  rw [UnitsStored.word run hk, tlutHalf_eq size o k (k := 0) (p := p) (by omega) rfl,
    tlutHalf_eq size o k (k := 1) (p := p) (by omega) rfl, tlutHalf_eq size o k (k := 2) (p := p) (by omega) rfl,
    tlutHalf_eq size o k (k := 3) (p := p) (by omega) rfl]
  split <;> rfl

/-! ## LOAD_TILE -/

/-- The halfwords of a LOAD_TILE in texture memory: word `i` of a tile of `line` words a row. -/
def tileHalf (s : State) (o : TileSizeOps) (line i : Nat) : Nat → Half :=
  storedHalf (i / line : Nat) (loadQword s (spanSource s (rectSpan o (i / line)) + (i % line : Nat) * 8) false)

theorem tileHalf_row (s : State) (o : TileSizeOps) {line y u : Nat} (hu : u < line) :
    tileHalf s o line (line * y + u) =
      storedHalf y (loadQword s (spanSource s (rectSpan o y) + u * 8) false) := by
  have row : (line * y + u) / line = y := by
    rw [Nat.mul_add_div (by omega), Nat.div_eq_of_lt hu, Nat.add_zero]
  have column : (line * y + u) % line = u := by
    rw [Nat.mul_add_mod, Nat.mod_eq_of_lt hu]
  rw [tileHalf, row, column]

section
variable {s : State} {o : TileSizeOps} (size : s.tiSize = 2)
include size

/-- A unit of a LOAD_TILE is the word of its row and column, in the order of its row. -/
theorem loadUnit_tile {t : Tile} (format : t.format ≠ 1) (half : t.size = 2) (sl : t.sl = o.sl) (tl : t.tl = o.tl) {y u : Nat}
    {r : LoadRegs} (regs : RegsAt s (rectKind s false false) (rectSpan o y) u r) :
    (loadUnit s t (rectKind s false false) r).tmem =
      setUnit r.tmem (unsigned t.line * y + unsigned t.tmem + u)
        (storedHalf y (loadQword s (spanSource s (rectSpan o y) + u * 8) false)) := by
  obtain ⟨regS, regT⟩ := regs.rect size
  have ls := loadCoord_whole regS
  have lt := loadCoord_whole regT
  rw [← sl] at ls
  rw [← tl] at lt
  have col : loadHalf t (loadCoord false t.sl r.s) % 2048 = 4 * (u : Int) % 2048 := by
    rw [loadHalf_of_half format half]
    omega
  have row : loadCoord false t.tl r.t % 512 = (y : Int) % 512 := by omega
  have stored := tmemStore_aligned (loadClass_ordinary format (by rw [half]; decide)) col row r.tmem
    (loadQword s r.tiptr false)
  rw [regs.source] at stored
  rw [loadUnit_tmem, regs.source]
  exact stored.trans (by rw [rectKind, unitBytes_plain])

/-- The rows of a LOAD_TILE whose rows are whole words of a tile of that `line` follow one another in texture memory. -/
theorem unitsStored_tile {t : Tile} (format : t.format ≠ 1) (half : t.size = 2) (sl : t.sl = o.sl) (tl : t.tl = o.tl)
    (order : o.sl.toNat / 4 ≤ o.sh.toNat / 4) (width : t.line.toNat * 4 = o.sh.toNat / 4 - o.sl.toNat / 4 + 1)
    {m : Cells Byte} (wf : Cells.wf (0 : Byte) 4096 m = true) {h : Nat} (fits : t.line.toNat * h ≤ 512) :
    UnitsStored (unsigned t.tmem) (tileHalf s o t.line.toNat) m
      (((List.range h).map (rectSpan o)).foldl (loadSpan s t (rectKind s false false)) m) (t.line.toNat * h) := by
  have units : ∀ y, spanUnits s (rectKind s false false) (rectSpan o y) = t.line.toNat := fun y => by
    rw [spanUnits_rect s _ order, rectKind, unitTexels_halves size, if_neg Bool.false_ne_true]
    omega
  induction h with
  | zero => exact UnitsStored.zero wf
  | succ y ih =>
    rw [List.range_succ, List.map_append, List.foldl_append]
    rw [Nat.mul_succ] at fits ⊢
    refine (ih (by omega)).loadSpan (spanAligned_rect size false false y) (units y) fits fun u hu r regs => ?_
    rw [loadUnit_tile size format half sl tl regs, tileHalf_row s o hu]
    congr 1
    simp only [unsigned]
    omega

end

/-- The texel (x, y) of a rectangle, in the word and at the halfword where its row stores it. -/
theorem tileHalf_texel {s : State} (size : s.tiSize = 2) (o : TileSizeOps) {line x y : Nat} (hx : x < line * 4) :
    tileHalf s o line (line * y + x / 4) (x % 4 ^^^ rowSwap y) =
      texelHalf s ((s.tiAddress.toNat + 2 * (s.tiWidth.toNat * (o.tl.toNat / 4 + y) + o.sl.toNat / 4 + x) : Nat) : Int) := by
  have column : x % 4 < 4 := Nat.mod_lt _ (by omega)
  rw [tileHalf_row s o (by omega), storedHalf_loadQword s _ _ (fun h => Bool.false_ne_true h.1) (xor_rowSwap_lt column y),
    xor_rowSwap_twice, spanSource_halves size]
  congr 1
  simp only [rectSpan]
  omega

/-- The halfword of texel (x, y) that R303 names, as the word of its unit and the place in it. -/
theorem texel_place (tmem line x y : Nat) :
    (4 * (tmem + line * y) + x) ^^^ (if y % 2 = 1 then 2 else 0) =
      4 * (tmem + (line * y + x / 4)) + (x % 4 ^^^ rowSwap y) := by
  rw [← rowSwap_natCast, show 4 * (tmem + line * y) + x = 4 * (tmem + (line * y + x / 4)) + x % 4 by omega]
  exact xor_within_word _ (Nat.mod_lt _ (by omega)) (rowSwap_lt y)

/-- The word of texel (x, y) is one of the words of its rectangle. -/
theorem texel_word_lt {line h x y : Nat} (hx : x < line * 4) (hy : y < h) : line * y + x / 4 < line * h :=
  calc line * y + x / 4 < line * (y + 1) := by rw [Nat.mul_succ]; omega
    _ ≤ line * h := Nat.mul_le_mul_left line hy

section
variable {s : State} {o : TileSizeOps} {m m' : Cells Byte} {tmem line h : Nat}
  (run : UnitsStored (tmem : Int) (tileHalf s o line) m m' (line * h))
include run

/-- A texel of the rectangle is at the halfword R303 names, modulo the size of texture memory. -/
theorem UnitsStored.texel (size : s.tiSize = 2) {x y : Nat} (hx : x < line * 4) (hy : y < h) {j : Int}
    (place : j % 2048 = ((4 * (tmem + line * y) + x) ^^^ (if y % 2 = 1 then 2 else 0) : Nat) % 2048) :
    tmem16 m' j =
      texelHalf s ((s.tiAddress.toNat + 2 * (s.tiWidth.toNat * (o.tl.toNat / 4 + y) + o.sl.toNat / 4 + x) : Nat) : Int) := by
  have column := xor_rowSwap_lt (show x % 4 < 4 by omega) y
  rw [texel_place] at place
  rw [run.stored _ (texel_word_lt hx hy) j (by omega), show (j % 4).toNat = x % 4 ^^^ rowSwap y by omega]
  exact tileHalf_texel size o hx

/-- A halfword that is no texel's stays. -/
theorem UnitsStored.texel_kept {u : Nat} (hu : u < 2048) (outside : ∀ x y : Nat, x < line * 4 → y < h →
      u ≠ ((4 * (tmem + line * y) + x) ^^^ (if y % 2 = 1 then 2 else 0)) % 2048) :
    tmem16 m' (u : Int) = tmem16 m (u : Int) := by
  refine run.kept u fun i hi same => ?_
  have linePos : 0 < line := Nat.pos_of_mul_pos_right (Nat.zero_lt_of_lt hi)
  have inRow := Nat.mod_lt i linePos
  have column := xor_rowSwap_lt (show u % 4 < 4 by omega) (i / line : Nat)
  refine outside (4 * (i % line) + (u % 4 ^^^ rowSwap (i / line : Nat))) (i / line) (by omega) (Nat.div_lt_of_lt_mul hi) ?_
  rw [texel_place, Nat.mul_add_mod, Nat.mod_eq_of_lt column, xor_rowSwap_twice, Nat.mul_add_div (by omega),
    Nat.div_eq_of_lt column, Nat.add_zero, Nat.div_add_mod]
  omega

end

/-- The fetch looks for texel (x, y) of a 16-bit tile at the halfword R303 names (47_texture.md R435). -/
theorem fetch_place (t : Tile) (x y : Nat) :
    xorBits 11 (fetchBase t y * 4 + x) (rowXor y 2) % 2048 =
      ((4 * (t.tmem.toNat + t.line.toNat * y) + x) ^^^ (if y % 2 = 1 then 2 else 0) : Nat) % 2048 := by
  have idx : (fetchBase t y * 4 + x) % 2048 =
      (4 * ((t.tmem.toNat + (t.line.toNat * y + x / 4)) % 512) + x % 4 : Nat) := by
    simp only [fetchBase, unsigned]
    omega
  have column := xor_rowSwap_lt (show x % 4 < 4 by omega) y
  rw [texel_place, xorBits_rowXor idx (by omega)]
  omega

/-- Settles O33: the rows are consecutive runs of words, in which the fetch finds each texel and outside which nothing changes. -/
theorem loadTileExact : Obligations.LoadTileExact := by
  intro o s w h wf size half format orderS orderT valid hw hh whole line fits
  obtain ⟨⟨t, ht, -, tile, -, copied⟩, -⟩ := loadCompletes o s (by rw [size]; decide)
  rw [← rectKind_eq, rectSpans_eq o valid (h := h) (by omega)] at copied
  have sameLine : (getTile t o.tile).line = (getTile s o.tile).line := by rw [tile]
  have sameTmem : (getTile t o.tile).tmem = (getTile s o.tile).tmem := by rw [tile]
  have words : (getTile s o.tile).line.toNat * h ≤ 512 := by
    rw [← line, Nat.mul_right_comm] at fits
    omega
  have run := unitsStored_tile (t := getTile t o.tile) size (by rw [tile]; exact format) (by rw [tile]; exact half)
    (by rw [tile]) (by rw [tile]) orderS (by rw [sameLine, line, hw]) wf (h := h) (by rwa [sameLine])
  rw [← copied, sameLine, sameTmem] at run
  rw [← line]
  refine ⟨t, ht, fun x y hx hy => ⟨run.texel size hx hy rfl, ?_⟩, fun u hu outside => run.texel_kept hu outside⟩
  have place := fetch_place (getTile t o.tile) x y
  rw [sameLine, sameTmem] at place
  rw [halfAt, run.texel size hx hy place]
  rfl

end Sys2Proof.Machine
end

section
/-! What the edge walker reads of a drawing command's operands (45_primitive_commands.md R321 to R338, 46_edge_walker.md R361,
R363): a rectangle's block is that of a triangle with vertical edges, and reading a block is the decoder's reading of its parts.
From it, how a drawing command completes (R320, R362, R395). -/

namespace Sys2Proof.Machine

/-! ## Reading a block -/

/-- Sign extension of a register from one of its bits reads its low field as a signed number. -/
theorem sext_unsigned {n : Nat} (w : BitVec n) (k : Nat) :
    sext (k + 1) (unsigned w) = (w.extractLsb' 0 (k + 1)).toInt := by
  have low : (w.extractLsb' 0 (k + 1)).toNat = w.toNat % 2 ^ (k + 1) := by
    rw [BitVec.extractLsb'_toNat, Nat.shiftRight_zero]
  have field : unsigned w % 2 ^ (k + 1) = (w.toNat % 2 ^ (k + 1) : Nat) := by
    simp [unsigned]
  have half : (2 ^ k : Int) = (2 ^ k : Nat) := (Int.natCast_pow 2 k).symm
  rw [BitVec.toInt_eq_toNat_cond, low, sext, field, Nat.add_sub_cancel, Int.pow_succ, Nat.pow_succ, half]
  split <;> split <;> omega

/-- One group of the eight quantities from the blocks that carry it, each as a signed number (46_edge_walker.md R363). -/
def signedGroup (c : Rgba Word) (x : Stw) (z : Word) : Attr8 Int :=
  { r := c.r.toInt, g := c.g.toInt, b := c.b.toInt, a := c.a.toInt, s := x.s.toInt, t := x.t.toInt, w := x.w.toInt,
    z := z.toInt }

/-- The primitive of the operands of a triangle (46_edge_walker.md R361, R363). -/
def primitiveOf (e : TriEdges) (c : ShadeBlock) (x : TexBlock) (z : ZBlock) : Primitive :=
  { flip := e.flip, level := e.level, tile := e.tile, yl := e.yl.toInt, ym := e.ym.toInt, yh := e.yh.toInt,
    xl := (e.xl.extractLsb 27 0).toInt, dxldy := (e.dxldy.extractLsb 29 0).toInt, xh := (e.xh.extractLsb 27 0).toInt,
    dxhdy := (e.dxhdy.extractLsb 29 0).toInt, xm := (e.xm.extractLsb 27 0).toInt, dxmdy := (e.dxmdy.extractLsb 29 0).toInt,
    signDxhdy := e.dxhdy.getLsbD 31, base := signedGroup c.base x.base z.z, dx := signedGroup c.dx x.dx z.dzdx,
    de := signedGroup c.de x.de z.dzde, dy := signedGroup c.dy x.dy z.dzdy }

/-- The walker reads of a block what the decoder reads of a command that carries all its parts. -/
theorem decodeEw_eq_primitiveOf (ew : List Word) :
    decodeEw ew = primitiveOf (decodeEdges (ewWord ew)) (decodeShade (ewWord ew) 8) (decodeTex (ewWord ew) 24)
      (decodeZ (ewWord ew) 40) := by
  have mid : sext 14 (unsigned (fieldOf (ewWord ew 1) 16 14)) = (fieldOf (ewWord ew 1) 16 14).toInt :=
    (sext_unsigned _ 13).trans (by rw [extract_self])
  simp only [decodeEw, mid, sext_unsigned _ 13, sext_unsigned _ 27, sext_unsigned _ 29]
  rfl

/-- `ew[0..43]` of a triangle with all its blocks (45_primitive_commands.md R321). -/
def fullBlock (op : BitVec 6) (e : TriEdges) (c : ShadeBlock) (x : TexBlock) (z : ZBlock) : List Word :=
  edgeWords op e ++ shadeWords c ++ texWords x ++ zWords z

theorem decodeEw_fullBlock (op : BitVec 6) (e : TriEdges) (c : ShadeBlock) (x : TexBlock) (z : ZBlock) :
    decodeEw (fullBlock op e c x z) = primitiveOf e c x z := by
  have edges : decodeEdges (ewWord (fullBlock op e c x z)) = e :=
    decodeEdges_append op e (shadeWords c ++ texWords x ++ zWords z)
  have shade : decodeShade (ewWord (fullBlock op e c x z)) 8 = c :=
    decodeShade_append (edgeWords op e) c (texWords x ++ zWords z)
  have tex : decodeTex (ewWord (fullBlock op e c x z)) 24 = x :=
    decodeTex_append (edgeWords op e ++ shadeWords c) x (zWords z)
  have depth : decodeZ (ewWord (fullBlock op e c x z)) 40 = z := rfl
  rw [decodeEw_eq_primitiveOf, edges, shade, tex, depth]

/-! ## Triangles -/

/-- The block of a triangle is the full one, an absent part being a block of zeros (45_primitive_commands.md R321, R324). -/
theorem blockOf_triParts {i : Instr} {e : TriEdges} {c : ShadeBlock} {x : TexBlock} {z : ZBlock}
    (h : triParts i = some (e, c, x, z)) (cycle : CycleType) : blockOf cycle i = fullBlock i.op e c x z := by
  cases i
  case triFill | triFillZ | triTex | triTexZ | triShade | triShadeZ | triShadeTex | triShadeTexZ =>
    cases h
    rfl
  all_goals cases h

theorem primOf_triParts {i : Instr} {e : TriEdges} {c : ShadeBlock} {x : TexBlock} {z : ZBlock}
    (h : triParts i = some (e, c, x, z)) (s : State) : primOf s i = primitiveOf e c x z := by
  rw [primOf, blockOf_triParts h, decodeEw_fullBlock]

/-- Settles O41: the primitive of a triangle is that of its operands. -/
theorem triangleBlock : Obligations.TriangleBlock := by
  intro i s e c x z h
  rw [primOf_triParts h]
  exact ⟨rfl, rfl, rfl, rfl, rfl, rfl, rfl, rfl, rfl, rfl, rfl, rfl, rfl, rfl, rfl, rfl, rfl⟩

/-! ## Rectangles -/

/-- The edges of a rectangle, as those of a triangle (45_primitive_commands.md R334). -/
def rectEdges (cycle : CycleType) (tile : BitVec 3) (o : RectOps) : TriEdges :=
  { flip := true, level := 0, tile := tile, yl := 0#2 ++ rectBottom cycle o.yl, ym := 0#2 ++ rectBottom cycle o.yl,
    yh := 0#2 ++ o.yh, xl := rectEdge o.xl, dxldy := 0, xh := rectEdge o.xh, dxhdy := 0, xm := rectEdge o.xl, dxmdy := 0 }

/-- The number of a concatenation. -/
theorem toNat_append_add {m n : Nat} (a : BitVec m) (b : BitVec n) : (a ++ b).toNat = a.toNat * 2 ^ n + b.toNat := by
  rw [BitVec.toNat_append, ← Nat.shiftLeft_add_eq_or_of_lt b.isLt, Nat.shiftLeft_eq]

theorem edgeWords_rectEdges (op : BitVec 6) (cycle : CycleType) (tile : BitVec 3) (o : RectOps) :
    edgeWords op (rectEdges cycle tile o) = rectHead op tile (rectBottom cycle o.yl) o := by
  have head : bitOf true ++ 0#1 ++ 0#3 ++ tile ++ 0#2 ++ (0#2 ++ rectBottom cycle o.yl) =
      1#1 ++ 0#4 ++ tile ++ 0#4 ++ rectBottom cycle o.yl := by
    apply BitVec.eq_of_toNat_eq
    simp only [toNat_append_add, BitVec.toNat_ofNat, bitOf, BitVec.toNat_ofBool, Bool.toNat_true]
    omega
  have rows : 0#2 ++ (0#2 ++ rectBottom cycle o.yl) ++ 0#2 ++ (0#2 ++ o.yh) = 0#4 ++ rectBottom cycle o.yl ++ 0#4 ++ o.yh := by
    apply BitVec.eq_of_toNat_eq
    simp only [toNat_append_add, BitVec.toNat_ofNat]
    omega
  exact congr (congrArg (fun h r => [headWord op h, r, _, _, _, _, _, _]) head) rows

/-- The block of a rectangle is the full one of a triangle with its edges, without shade or depth (45_primitive_commands.md R334
to R338). -/
theorem assembleRect_eq_fullBlock (op : BitVec 6) (cycle : CycleType) (tile : BitVec 3) (o : RectOps) (x : Option TexBlock) :
    assembleRect op cycle tile o x = fullBlock op (rectEdges cycle tile o) noShade (x.getD noTex) noZ := by
  rw [fullBlock, edgeWords_rectEdges]
  cases x <;> rfl

/-- The primitive of a rectangle, its texture steps being `x`. -/
theorem decodeEw_assembleRect (op : BitVec 6) (cycle : CycleType) (tile : BitVec 3) (o : RectOps) (x : Option TexBlock) :
    decodeEw (assembleRect op cycle tile o x) = primitiveOf (rectEdges cycle tile o) noShade (x.getD noTex) noZ := by
  rw [assembleRect_eq_fullBlock, decodeEw_fullBlock]

theorem toInt_zero_append {k n : Nat} (v : BitVec n) : (0#(k + 1) ++ v).toInt = v.toNat := by
  simp [BitVec.toInt_append]

/-- A value with zeros below it. -/
theorem toInt_append_zero {n : Nat} (v : BitVec (n + 1)) (k : Nat) : (v ++ 0#k).toInt = v.toInt * 2 ^ k := by
  simp [BitVec.toInt_append, Int.mul_comm]

/-- Setting the two low bits rounds up to the last quarter of a scanline (45_primitive_commands.md R335). -/
theorem toNat_or_three (y : BitVec 12) : (y ||| 3).toNat = y.toNat / 4 * 4 + 3 := by
  have parts : y = y.extractLsb' 2 10 ++ y.extractLsb' 0 2 := by
    rw [BitVec.extractLsb'_append_extractLsb'_eq_extractLsb' (by omega)]
    exact (extract_self y).symm
  have ones : y.extractLsb' 0 2 ||| 3#2 = 3#2 := BitVec.or_allOnes
  have round : y ||| 3 = y.extractLsb' 2 10 ++ 3#2 :=
    calc y ||| 3 = (y.extractLsb' 2 10 ++ y.extractLsb' 0 2) ||| (0#10 ++ 3#2) := congrArg (· ||| 3#12) parts
      _ = y.extractLsb' 2 10 ++ 3#2 := by rw [BitVec.or_append, ones, BitVec.or_zero]
  rw [round, toNat_append_add, BitVec.extractLsb'_toNat, Nat.shiftRight_eq_div_pow, BitVec.toNat_ofNat]
  omega

theorem toInt_rectBottom (cycle : CycleType) (yl : BitVec 12) : (0#2 ++ rectBottom cycle yl).toInt = bottomOf cycle yl := by
  rw [toInt_zero_append]
  cases cycle
  case one | two => rfl
  case copy | fill => exact congrArg Int.ofNat (toNat_or_three yl)

theorem toInt_rectEdge (x : BitVec 12) : ((rectEdge x).extractLsb 27 0).toInt = ((x.toNat * 2 ^ 14 : Nat) : Int) := by
  have low : ((rectEdge x).extractLsb 27 0).toNat = x.toNat * 2 ^ 14 := by
    simp only [BitVec.extractLsb_toNat, Nat.shiftRight_zero, rectEdge, toNat_append_add, BitVec.toNat_ofNat]
    omega
  rw [BitVec.toInt_eq_toNat_of_lt, low]
  omega

/-- An s6.10 step as an s16.16 number (45_primitive_commands.md R335). -/
theorem toInt_rectStep (d : BitVec 16) : (rectStep d).toInt = d.toInt * 2 ^ 11 := by
  have frac : (d.extractLsb' 0 5 ++ 0#11).toNat = d.toNat % 32 * 2 ^ 11 := by
    rw [toNat_append_add, BitVec.extractLsb'_toNat, Nat.shiftRight_zero, BitVec.toNat_ofNat, Nat.zero_mod, Nat.add_zero]
  have low : d.toInt % 32 = d.toNat % 32 := by
    rw [BitVec.toInt_eq_toNat_cond]
    omega
  rw [rectStep, BitVec.toInt_append, if_neg (by decide), frac, BitVec.toInt_sshiftRight, Int.shiftRight_eq_div_pow]
  omega

/-- The start of a texture rectangle, the other quantities being 0. -/
theorem signedGroup_rectStart (o : TexRectOps) :
    signedGroup (Rgba.same 0) (rectStart o) 0 = { Attr8.same 0 with s := o.s.toInt * 2 ^ 16, t := o.t.toInt * 2 ^ 16 } := by
  rw [← toInt_append_zero (n := 15), ← toInt_append_zero (n := 15)]
  rfl

/-- A step of `S` alone. -/
theorem signedGroup_stepS (d : BitVec 16) :
    signedGroup (Rgba.same 0) { s := rectStep d, t := 0, w := 0 } 0 = { Attr8.same 0 with s := d.toInt * 2 ^ 11 } := by
  rw [← toInt_rectStep]
  rfl

/-- A step of `T` alone. -/
theorem signedGroup_stepT (d : BitVec 16) :
    signedGroup (Rgba.same 0) { s := 0, t := rectStep d, w := 0 } 0 = { Attr8.same 0 with t := d.toInt * 2 ^ 11 } := by
  rw [← toInt_rectStep]
  rfl

/-- Settles O42: the primitive of a rectangle is that of its edges and of its texture steps. -/
theorem rectangleBlock : Obligations.RectangleBlock := by
  unfold Obligations.RectangleBlock
  intro flat edges
  have vertical (s : State) (tile : BitVec 3) (o : RectOps) (c : ShadeBlock) (x : TexBlock) (z : ZBlock) :
      edges s o (primitiveOf (rectEdges s.mode.cycleType tile o) c x z) :=
    ⟨rfl, rfl, toInt_rectBottom _ _, toInt_rectBottom _ _, toInt_zero_append _, toInt_rectEdge _, toInt_rectEdge _,
      toInt_rectEdge _, rfl, rfl, rfl, by simp [primitiveOf, rectEdges]⟩
  refine ⟨fun o s => ?texture, fun o s => ?flipped, fun o s => ?fill⟩
  all_goals
    rw [primOf, blockOf, decodeEw_assembleRect]
    refine ⟨vertical .., rfl, ?_⟩
  case texture =>
    exact ⟨signedGroup_rectStart o, signedGroup_stepS o.dsdx, signedGroup_stepT o.dtdy, signedGroup_stepT o.dtdy⟩
  case flipped =>
    exact ⟨signedGroup_rectStart o, signedGroup_stepT o.dtdy, signedGroup_stepS o.dsdx, signedGroup_stepS o.dsdx⟩
  case fill => exact ⟨rfl, rfl, rfl, rfl⟩

/-! ## Completion -/

/-- A drawing command raises `Crashed` by its cycle type and the size of the colour image alone (60_exceptions.md R601). -/
theorem raises_drawing {i : Instr} (hd : drawing i = true) (s : State) :
    raises s i = ((s.mode.cycleType == .fill && s.fbSize == 0) || (s.mode.cycleType == .copy && s.fbSize == 0) ||
      (s.mode.cycleType == .copy && s.fbSize == 3 && s.cfg.copy32Lockup)) := by
  cases i
  case triFill | triFillZ | triTex | triTexZ | triShade | triShadeZ | triShadeTex | triShadeTexZ | textureRectangle
      | textureRectangleFlip | fillRectangle =>
    simp [raises, drawing, loading]
  all_goals cases hd

/-- A drawing command raises `Crashed` exactly when its pipeline refuses the colour image. -/
theorem renderBlock_none_iff_raises {i : Instr} (hd : drawing i = true) (s : State) (ew : List Word) :
    renderBlock s ew = none ↔ raises s i = true := by
  have zero : s.fbSize.toNat = 0 ↔ s.fbSize = 0 := (BitVec.toNat_inj (y := 0#2))
  have three : s.fbSize.toNat = 3 ↔ s.fbSize = 3 := (BitVec.toNat_inj (y := 3#2))
  rw [renderBlock_none, raises_drawing hd, zero, three]
  simp [and_assoc, or_assoc]

/-- `max_level` after a rectangle (46_edge_walker.md R362). -/
theorem level_of_rectangle {i : Instr} (hd : drawing i = true) (h : triParts i = none) (s : State) : (primOf s i).level = 0 := by
  cases i
  case textureRectangle | textureRectangleFlip | fillRectangle =>
    rw [primOf, blockOf, decodeEw_assembleRect]
    rfl
  case triFill | triFillZ | triTex | triTexZ | triShade | triShadeZ | triShadeTex | triShadeTexZ => cases h
  all_goals cases hd

/-- Settles O36: a pipeline that does not refuse renders, and the edge walk takes over what it wrote. -/
theorem drawCompletes : Obligations.DrawCompletes := by
  refine ⟨fun i s hd quiet => ?_, fun i s e c x z h => ?_, fun i s hd h => level_of_rectangle hd h s⟩
  · cases hr : renderBlock s (blockOf s.mode.cycleType i) with
    | none => exact absurd ((renderBlock_none_iff_raises hd s _).1 hr) (by simp [quiet])
    | some pipe => exact ⟨pipe, rfl, by rw [exec_drawing hd, edgeWalk_some hr]; rfl⟩
  · rw [primOf_triParts h]
    rfl

end Sys2Proof.Machine
end

section
/-! What a drawing command stores to: the colour and depth bytes of the pixels it visits, and the hidden entries that travel with
them (49_depth_coverage_framebuffer.md R548, R560, R566, R580, R588). -/

namespace Sys2Proof.Machine

/-! ## The hidden entries of one store -/

section
variable {cfg : Config} {ram : Ram} (h : ramOk cfg ram = true)
include h

theorem hidEntry_pairWr8_other {i : Int} {u : Nat} (hu : 2 * u + 1 ≠ index32 i) (v : Byte) (x : BitVec 2) :
    hidEntry cfg (pairWr8 cfg ram i v x) u = hidEntry cfg ram u := by
  rw [hidEntry_pairWr8 h, if_neg]
  omega

theorem hidEntry_pairWr16_other {i : Int} {u : Nat} (hu : 2 * u + 1 ∉ unitAddresses 2 (index32 i)) (v : Half) (x : BitVec 2) :
    hidEntry cfg (pairWr16 cfg ram i v x) u = hidEntry cfg ram u := by
  obtain ⟨-, odd⟩ := not_mem_unit2 hu
  rw [hidEntry_pairWr16 h, if_neg]
  omega

theorem hidEntry_pairWr32_other {i : Int} {u : Nat} (hu : 2 * u + 1 ∉ unitAddresses 4 (index32 i)) (v : Word) (x y : BitVec 2) :
    hidEntry cfg (pairWr32 cfg ram i v x y) u = hidEntry cfg ram u := by
  obtain ⟨-, upper, -, lower⟩ := not_mem_unit4 hu
  by_cases hi : index32 i < memSize cfg / 4
  · rw [hidEntry_pairWr32 h hi, if_neg (by omega), if_neg (by omega)]
  · rw [pairWr32, if_neg hi]

end

theorem hidEntry_wr8 (cfg : Config) (ram : Ram) (i : Int) (v : Byte) (u : Nat) :
    hidEntry cfg (wr8 cfg ram i v) u = hidEntry cfg ram u := by
  rw [wr8]
  split <;> rfl

section
variable {s : State} {ram : Ram} (h : ramOk s.cfg ram = true) {p : Int} {u : Nat} (hu : 2 * u + 1 ∉ colorBytes s p)
include h hu

/-- A framebuffer write leaves every hidden entry that goes with none of the pixel's colour bytes. -/
theorem hidEntry_fbWrite_other (hc : s.mode.cycleType ≠ .copy) (c : Rgb Int) (fc : BitVec 3) :
    hidEntry s.cfg (fbWrite s ram p c fc) u = hidEntry s.cfg ram u := by
  unfold colorBytes at hu
  unfold fbWrite
  match hs : s.fbSize.toNat with
  | 0 => exact hidEntry_wr8 ..
  | 1 =>
    simp only [hs, List.mem_singleton] at hu
    exact hidEntry_pairWr8_other h hu _ _
  | 2 =>
    simp only [hs, hc, if_false] at hu
    simp only
    split <;> exact hidEntry_pairWr16_other h hu _ _
  | n + 3 =>
    simp only [hs] at hu
    exact hidEntry_pairWr32_other h hu _ _ _

/-- A fill write leaves every hidden entry that goes with none of the pixel's colour bytes. -/
theorem hidEntry_fbFill_other (hc : s.mode.cycleType ≠ .copy) : hidEntry s.cfg (fbFill s ram p) u = hidEntry s.cfg ram u := by
  unfold colorBytes at hu
  unfold fbFill
  match hs : s.fbSize.toNat with
  | 0 => rfl
  | 1 =>
    simp only [hs, List.mem_singleton] at hu
    exact hidEntry_pairWr8_other h hu _ _
  | 2 =>
    simp only [hs, hc, if_false] at hu
    exact hidEntry_pairWr16_other h hu _ _
  | n + 3 =>
    simp only [hs] at hu
    exact hidEntry_pairWr32_other h hu _ _ _

/-- A copy write leaves every hidden entry that goes with none of the pixel's colour bytes. -/
theorem hidEntry_copyWrite_other (hc : s.mode.cycleType = .copy) (hf : s.fbSize.toNat = 1 ∨ s.fbSize.toNat = 2) (v : Half) :
    hidEntry s.cfg (copyWrite s ram p v) u = hidEntry s.cfg ram u := by
  unfold colorBytes at hu
  unfold copyWrite
  rcases hf with hs | hs
  · simp only [hs, List.mem_singleton] at hu
    rw [if_pos hs, hidEntry_pairWr8_other h hu]
  · simp only [hs, hc, if_true, List.mem_cons, List.not_mem_nil, or_false, not_or] at hu
    obtain ⟨first, second⟩ := hu
    rw [if_neg (by omega)]
    exact (hidEntry_pairWr8_other (ramOk_pairWr8 h _ _ _) second _ _).trans (hidEntry_pairWr8_other h first _ _)

end

/-! ## What a pipeline leaves -/

/-- `ram` is canonical, and agrees with `ram0` in every byte outside `bytes` and in every hidden entry whose odd byte is outside
them. -/
structure KeptOutside (cfg : Config) (bytes : List Nat) (ram0 ram : Ram) : Prop where
  canonical : ramOk cfg ram = true
  byte : ∀ a, a ∉ bytes → memByte ram a = memByte ram0 a
  hidden : ∀ u, 2 * u + 1 ∉ bytes → hidEntry cfg ram u = hidEntry cfg ram0 u

section
variable {s : State} {bytes : List Nat} {ram0 ram : Ram}

theorem KeptOutside.refl {cfg : Config} (h : ramOk cfg ram = true) : KeptOutside cfg bytes ram ram :=
  ⟨h, fun _ _ => rfl, fun _ _ => rfl⟩

section
variable (kept : KeptOutside s.cfg bytes ram0 ram) {p : Int}
include kept

theorem KeptOutside.fbWrite (hc : s.mode.cycleType ≠ .copy) (own : colorBytes s p ⊆ bytes) (c : Rgb Int) (fc : BitVec 3) :
    KeptOutside s.cfg bytes ram0 (fbWrite s ram p c fc) where
  canonical := ramOk_fbWrite kept.canonical _ _ _
  byte a ha := (memByte_fbWrite_other kept.canonical hc _ _ _ _ fun m => ha (own m)).trans (kept.byte a ha)
  hidden u hu := (hidEntry_fbWrite_other kept.canonical (fun m => hu (own m)) hc _ _).trans (kept.hidden u hu)

theorem KeptOutside.fbFill (hc : s.mode.cycleType ≠ .copy) (own : colorBytes s p ⊆ bytes) :
    KeptOutside s.cfg bytes ram0 (fbFill s ram p) where
  canonical := ramOk_fbFill kept.canonical _
  byte a ha := (memByte_fbFill_other kept.canonical hc _ _ fun m => ha (own m)).trans (kept.byte a ha)
  hidden u hu := (hidEntry_fbFill_other kept.canonical (fun m => hu (own m)) hc).trans (kept.hidden u hu)

theorem KeptOutside.copyWrite (hc : s.mode.cycleType = .copy) (hf : s.fbSize.toNat = 1 ∨ s.fbSize.toNat = 2)
    (own : colorBytes s p ⊆ bytes) (v : Half) : KeptOutside s.cfg bytes ram0 (copyWrite s ram p v) where
  canonical := ramOk_copyWrite kept.canonical _ _
  byte a ha := (memByte_copyWrite_other kept.canonical hc hf _ _ _ fun m => ha (own m)).trans (kept.byte a ha)
  hidden u hu := (hidEntry_copyWrite_other kept.canonical (fun m => hu (own m)) hc hf _).trans (kept.hidden u hu)

theorem KeptOutside.zStore {zi : Int} (own : unitAddresses 2 (index32 zi) ⊆ bytes) (sz : Int) (dz : Nat) :
    KeptOutside s.cfg bytes ram0 (zStore s.cfg ram zi sz dz) where
  canonical := ramOk_zStore kept.canonical _ _ _
  byte a ha := (memByte_zStore_other kept.canonical _ _ _ _ fun m => ha (own m)).trans (kept.byte a ha)
  hidden u hu := (hidEntry_pairWr16_other kept.canonical (fun m => hu (own m)) _ _).trans (kept.hidden u hu)

end

/-- A drawn pixel of the 1-cycle or 2-cycle pipeline stores its colour and, with `z_update_en`, its depth. -/
theorem KeptOutside.drawPixel (kept : KeptOutside s.cfg bytes ram0 ram) (hc : s.mode.cycleType = .one ∨ s.mode.cycleType = .two)
    {px : PixelAt} (color : colorBytes s (pixelIndex s px.x px.y) ⊆ bytes)
    (depth : depthBytes s (pixelIndex s px.x px.y) ⊆ bytes) (two : Bool) (e : PrimEnv) (w : PixelWork) (fb : FbPixel)
    (d : DepthOut) : KeptOutside s.cfg bytes ram0 (drawPixel s two e px w fb d ram) := by
  have written := kept.fbWrite (by rcases hc with hc | hc <;> simp [hc]) color
  unfold Machine.drawPixel
  dsimp only
  split
  · rename_i hz
    rw [depthBytes, if_pos ⟨hz, hc⟩] at depth
    exact (written _ _).zStore depth _ _
  · exact written _ _

end

theorem one_or_two_of_ne {c : CycleType} (noCopy : c ≠ .copy) (noFill : c ≠ .fill) : c = .one ∨ c = .two := by
  cases c
  case one => exact .inl rfl
  case two => exact .inr rfl
  case copy => exact absurd rfl noCopy
  case fill => exact absurd rfl noFill

/-- A pipeline stores to no byte but those of the pixels it visits. The fill pipeline stores no depth, even with `z_update_en`. -/
theorem keptOutside_renderSpans {s : State} {e : PrimEnv} {ys ye : Int} {pipe pipe' : Pipe} {bytes : List Nat}
    (color : ∀ xy ∈ visited e.flip e.spans ys ye, colorBytes s (pixelIndex s xy.1 xy.2) ⊆ bytes)
    (depth : ∀ xy ∈ visited e.flip e.spans ys ye, depthBytes s (pixelIndex s xy.1 xy.2) ⊆ bytes)
    (ok : ramOk s.cfg pipe.ram = true) (h : renderSpans s e ys ye pipe = some pipe') :
    KeptOutside s.cfg bytes pipe.ram pipe'.ram := by
  by_cases hc : s.mode.cycleType = .fill
  · have noCopy : s.mode.cycleType ≠ .copy := by simp [hc]
    rw [renderSpans, hc, renderFill] at h
    dsimp only at h
    split at h
    · cases h
    · cases h
      exact fillPixels_keeps (KeptOutside s.cfg bytes pipe.ram) _
        (fun ram xy hxy kept => kept.fbFill noCopy (color xy hxy)) _ (.refl ok)
  · refine renderSpans_keeps (KeptOutside s.cfg bytes pipe.ram) (fun noCopy two px w fb d ram hpx kept => ?_)
      (fun fill => absurd fill hc) (fun copy hf ram xy v hxy kept => kept.copyWrite copy hf (color xy hxy) v) (.refl ok) h
    exact kept.drawPixel (one_or_two_of_ne noCopy hc) (color (px.x, px.y) hpx) (depth (px.x, px.y) hpx) two e w fb d

/-- Settles O38: a command that raises `Crashed` stores nothing, and one that completes stores what its pipeline stores. -/
theorem drawFrame : Obligations.DrawFrame := by
  intro i s t hd ok ht
  cases (exec_drawing hd s).symm.trans ht
  cases hr : renderBlock s (blockOf s.mode.cycleType i) with
  | none =>
    rw [edgeWalk_none hr]
    exact ⟨fun _ _ => rfl, fun _ _ => rfl⟩
  | some pipe =>
    rw [edgeWalk_some hr]
    have color : ∀ xy ∈ pixelsOf s i, colorBytes s (pixelIndex s xy.1 xy.2) ⊆ storedBytes s i := fun xy hxy _ ha =>
      List.mem_flatMap.2 ⟨xy, hxy, List.mem_append_left _ ha⟩
    have depth : ∀ xy ∈ pixelsOf s i, depthBytes s (pixelIndex s xy.1 xy.2) ⊆ storedBytes s i := fun xy hxy _ ha =>
      List.mem_flatMap.2 ⟨xy, hxy, List.mem_append_right _ ha⟩
    rw [renderBlock] at hr
    have kept : KeptOutside s.cfg (storedBytes s i) s.ram pipe.ram := by
      refine keptOutside_renderSpans ?_ ?_ ?_ hr
      · exact color
      · exact depth
      · exact ok
    exact ⟨kept.byte, kept.hidden⟩

end Sys2Proof.Machine
end

section
/-! The delta-Z of a primitive and its 4-bit code (46_edge_walker.md R367, 49_depth_coverage_framebuffer.md R533): bit `i` of the
code says whether the value has a set bit at a position whose own bit `i` is set. -/

namespace Sys2Proof.Machine

/-- Whether `v` has a set bit, among the low 16, at a position whose own bit `i` is set (49_depth_coverage_framebuffer.md R533). -/
def someBitAt (v i : Nat) : Bool := (List.range 16).any fun k => v.testBit k && k.testBit i

theorem someBitAt_iff {v i : Nat} : someBitAt v i = true ↔ ∃ k < 16, v.testBit k = true ∧ k.testBit i = true := by
  simp only [someBitAt, List.any_eq_true, List.mem_range, Bool.and_eq_true]

/-- A value meets a 16-bit mask exactly when one of the mask's positions is set in it. -/
theorem land_ne_zero_iff {m : Nat} (hm : m < 2 ^ 16) (v : Nat) :
    v &&& m ≠ 0 ↔ ∃ k < 16, v.testBit k = true ∧ m.testBit k = true := by
  constructor
  · intro h
    obtain ⟨k, hk⟩ := Nat.exists_testBit_of_ne_zero h
    obtain ⟨hv, hmk⟩ := Bool.and_eq_true_iff.1 ((Nat.testBit_and v m k).symm.trans hk)
    have small : 2 ^ k < 2 ^ 16 := Nat.lt_of_le_of_lt (Nat.ge_two_pow_of_testBit hmk) hm
    exact ⟨k, (Nat.pow_lt_pow_iff_right (by decide)).1 small, hv, hmk⟩
  · rintro ⟨k, -, hv, hmk⟩ h
    have bit : (v &&& m).testBit k = true := by rw [Nat.testBit_and, hv, hmk, Bool.and_self]
    rw [h, Nat.zero_testBit] at bit
    cases bit

/-- The mask of the positions whose bit `i` is set picks out `someBitAt`. -/
theorem land_mask_ne_zero_iff {m : Nat} (hm : m < 2 ^ 16) {i : Nat} (mask : ∀ k < 16, m.testBit k = k.testBit i) (v : Nat) :
    v &&& m ≠ 0 ↔ someBitAt v i = true := by
  rw [land_ne_zero_iff hm, someBitAt_iff]
  exact exists_congr fun k => and_congr_right fun hk => by rw [mask k hk]

theorem dzCompress_eq (v : Nat) :
    dzCompress v = (if someBitAt v 3 then 8 else 0) + (if someBitAt v 2 then 4 else 0) + (if someBitAt v 1 then 2 else 0) +
      (if someBitAt v 0 then 1 else 0) := by
  simp only [dzCompress, land_mask_ne_zero_iff (m := 0xff00) (i := 3) (by decide) (by decide),
    land_mask_ne_zero_iff (m := 0xf0f0) (i := 2) (by decide) (by decide),
    land_mask_ne_zero_iff (m := 0xcccc) (i := 1) (by decide) (by decide),
    land_mask_ne_zero_iff (m := 0xaaaa) (i := 0) (by decide) (by decide)]

/-- The OR of the positions in `l` at which `v` has a set bit. -/
def orPositions (v : Nat) (l : List Nat) (acc : Nat) : Nat := l.foldl (fun acc k => if v.testBit k then acc ||| k else acc) acc

theorem testBit_orPositions (v i : Nat) (l : List Nat) (acc : Nat) :
    (orPositions v l acc).testBit i = (acc.testBit i || l.any fun k => v.testBit k && k.testBit i) := by
  induction l generalizing acc with
  | nil => rw [orPositions, List.foldl_nil, List.any_nil, Bool.or_false]
  | cons k l ih =>
    rw [orPositions, List.foldl_cons, ← orPositions, ih, List.any_cons]
    cases v.testBit k
    case false => simp only [Bool.false_eq_true, if_false, Bool.false_and, Bool.false_or]
    case true => simp only [if_true, Bool.true_and, Nat.testBit_or, Bool.or_assoc]

theorem someBitAt_of_four_le (v : Nat) {i : Nat} (hi : 4 ≤ i) : someBitAt v i = false := by
  rw [Bool.eq_false_iff, ne_eq, someBitAt_iff]
  rintro ⟨k, hk, -, bit⟩
  have small : (2 ^ 4 : Nat) ≤ 2 ^ i := Nat.pow_le_pow_right (by omega) hi
  rw [Nat.testBit_lt_two_pow (Nat.lt_of_lt_of_le hk small)] at bit
  cases bit

/-- The bits of a number written as the sum of the powers of two of its four bits. -/
theorem testBit_sum_of_four : ∀ b3 b2 b1 b0 : Bool, ∀ i < 4,
    ((if b3 then 8 else 0) + (if b2 then 4 else 0) + (if b1 then 2 else 0) + if b0 then 1 else 0).testBit i =
      [b0, b1, b2, b3].getD i false := by
  decide

/-- The bits of the delta-Z code (49_depth_coverage_framebuffer.md R533). -/
theorem testBit_dzCompress (v i : Nat) : (dzCompress v).testBit i = someBitAt v i := by
  rw [dzCompress_eq]
  rcases Nat.lt_or_ge i 4 with hi | hi
  · rw [testBit_sum_of_four _ _ _ _ i hi]
    match i, hi with
    | 0, _ | 1, _ | 2, _ | 3, _ => rfl
  · rw [someBitAt_of_four_le v hi]
    refine Nat.testBit_lt_two_pow (Nat.lt_of_lt_of_le ?_ (Nat.pow_le_pow_right (by omega) hi : 2 ^ 4 ≤ 2 ^ i))
    split <;> split <;> split <;> split <;> omega

/-- The delta-Z code is the OR of the set bit positions (49_depth_coverage_framebuffer.md R533). -/
theorem dzCompress_eq_orPositions (v : Nat) : dzCompress v = orPositions v (List.range 16) 0 := by
  refine Nat.eq_of_testBit_eq fun i => ?_
  rw [testBit_dzCompress, testBit_orPositions, Nat.zero_testBit, Bool.false_or, someBitAt]

theorem dzCompress_two_pow {c : Nat} (hc : c < 16) : dzCompress (2 ^ c) = c := by
  refine Nat.eq_of_testBit_eq fun i => ?_
  rw [testBit_dzCompress, Bool.eq_iff_iff, someBitAt_iff]
  simp only [Nat.testBit_two_pow, decide_eq_true_eq]
  exact ⟨fun ⟨k, _, hk, bit⟩ => hk ▸ bit, fun bit => ⟨c, hc, rfl, bit⟩⟩

/-- The delta-Z of a 16-bit sum (46_edge_walker.md R367). -/
theorem normDz_cases {v : Int} (h0 : 0 ≤ v) : normDz v = 3 ∨ ∃ c : Nat, c < 16 ∧ normDz v = ((2 ^ c : Nat) : Int) := by
  rw [normDz]
  split
  · exact .inr ⟨15, by omega, rfl⟩
  split
  · exact .inr ⟨0, by omega, rfl⟩
  split
  · exact .inl rfl
  · have high : v.toNat.log2 < 14 := (Nat.log2_lt (by omega)).2 (by omega)
    refine .inr ⟨v.toNat.log2 + 1, by omega, ?_⟩
    rw [msb, Nat.pow_succ, Nat.mul_comm, Int.natCast_mul, Int.natCast_pow]
    rfl

/-- Settles O51: the bits of the code are those of the OR of the positions, and the delta-Z of any sum is a power of two or 3. -/
theorem deltaZ : Obligations.DeltaZ :=
  ⟨fun _ hc => dzCompress_two_pow hc, fun v _ => dzCompress_eq_orPositions v, fun _ =>
    normDz_cases (Int.emod_nonneg _ (by decide))⟩

end Sys2Proof.Machine
end

section
/-! The pixels of a primitive (46_edge_walker.md R396): those between the two ends of the valid rows of a range, each once. -/

namespace Sys2Proof.Machine

theorem mem_rangeTo {first last k : Int} : k ∈ rangeTo first last ↔ first ≤ k ∧ k ≤ last := by
  simp only [rangeTo, List.mem_map, List.mem_range]
  exact ⟨fun ⟨n, hn, e⟩ => by omega, fun ⟨h1, h2⟩ => ⟨(k - first).toNat, by omega, by omega⟩⟩

/-- A map that keeps different elements different keeps a list free of repeats. -/
theorem nodup_map {α β : Type} {f : α → β} {l : List α} (inj : ∀ a b, f a = f b → a = b) (h : l.Nodup) : (l.map f).Nodup :=
  List.pairwise_map.2 (List.Pairwise.imp (fun {a b} ne e => ne (inj a b e)) h)

theorem nodup_rangeTo (first last : Int) : (rangeTo first last).Nodup :=
  nodup_map (fun _ _ h => by omega) List.nodup_range

theorem length_rangeTo (first last : Int) : (rangeTo first last).length = (last - first + 1).toNat := by
  rw [rangeTo, List.length_map, List.length_range]

/-- The columns of a row are those from its left end to its right end (46_edge_walker.md R396). -/
theorem mem_rowColumns {flip : Bool} {row : Span} {x : Int} :
    x ∈ rowColumns flip row ↔ row.validline = true ∧ (cvgFirst flip row : Int) ≤ x ∧ x ≤ (cvgLast flip row : Int) := by
  simp only [rowColumns, rowCount, rowColumn, rowLength, cvgFirst, cvgLast, unsigned, List.mem_map, List.mem_range]
  cases row.validline
  case false => simp only [Bool.false_eq_true, if_false, Nat.not_lt_zero, false_and, exists_false]
  case true =>
    simp only [if_true, true_and]
    cases flip
    case true =>
      simp only [if_true]
      exact ⟨fun ⟨j, hj, e⟩ => by omega, fun ⟨h1, h2⟩ => ⟨(x - row.rx.toNat).toNat, by omega, by omega⟩⟩
    case false =>
      simp only [Bool.false_eq_true, if_false]
      exact ⟨fun ⟨j, hj, e⟩ => by omega, fun ⟨h1, h2⟩ => ⟨(row.rx.toNat - x).toNat, by omega, by omega⟩⟩

theorem nodup_rowColumns (flip : Bool) (row : Span) : (rowColumns flip row).Nodup := by
  refine nodup_map (fun a b h => ?_) List.nodup_range
  unfold rowColumn at h
  split at h <;> omega

/-- The number of columns of a valid row. -/
theorem length_rowColumns {flip : Bool} {row : Span} (valid : row.validline = true) :
    (rowColumns flip row).length = cvgLast flip row + 1 - cvgFirst flip row := by
  simp only [rowColumns, List.length_map, List.length_range, rowCount, valid, if_true, rowLength, cvgFirst, cvgLast, unsigned]
  split <;> omega

theorem mem_visited_iff {flip : Bool} {spans : Cells Span} {ys ye x y : Int} :
    (x, y) ∈ visited flip spans ys ye ↔ (ys ≤ y ∧ y ≤ ye) ∧ (spanRow spans y).validline = true ∧
      (cvgFirst flip (spanRow spans y) : Int) ≤ x ∧ x ≤ (cvgLast flip (spanRow spans y) : Int) := by
  simp only [visited, List.mem_flatMap, List.mem_map, Prod.mk.injEq, mem_rangeTo]
  rw [← mem_rowColumns]
  exact ⟨fun ⟨_, hi, _, hx, ex, ei⟩ => ex ▸ ei ▸ ⟨hi, hx⟩, fun ⟨hi, hx⟩ => ⟨y, hi, x, hx, rfl, rfl⟩⟩

/-- The columns of a row do not repeat, and neither do the rows. -/
theorem nodup_visited (flip : Bool) (spans : Cells Span) (ys ye : Int) : (visited flip spans ys ye).Nodup := by
  refine List.pairwise_flatMap.2 ⟨fun i _ => ?_, ?_⟩
  · exact nodup_map (fun _ _ h => (Prod.mk.inj h).1) (nodup_rowColumns flip _)
  · refine List.Pairwise.imp (fun {i j} ne => ?_) (nodup_rangeTo ys ye)
    intro xy hi xy' hj same
    obtain ⟨x, -, rfl⟩ := List.mem_map.1 hi
    obtain ⟨x', -, rfl⟩ := List.mem_map.1 hj
    exact ne (Prod.mk.inj same).2

/-- When every row of a range is valid and has the same ends, the pixels are as many as its columns times its rows. -/
theorem length_visited {flip : Bool} {spans : Cells Span} {ys ye : Int} {n : Nat}
    (rows : ∀ y, ys ≤ y → y ≤ ye → (rowColumns flip (spanRow spans y)).length = n) :
    (visited flip spans ys ye).length = n * (ye - ys + 1).toNat := by
  have lengths : (rangeTo ys ye).map (fun y => ((rowColumns flip (spanRow spans y)).map fun x => (x, y)).length) =
      (rangeTo ys ye).map fun _ => n :=
    List.map_congr_left fun y hy => by
      obtain ⟨h1, h2⟩ := mem_rangeTo.1 hy
      rw [List.length_map, rows y h1 h2]
  rw [visited, List.length_flatMap, lengths, List.map_const', List.sum_replicate_nat, length_rangeTo, Nat.mul_comm]

/-- Settles O45: the pixels are those of the rows of a range. -/
theorem pixelsOnce : Obligations.PixelsOnce := fun _ _ _ => nodup_visited _ _ _ _

end Sys2Proof.Machine
end

section
/-! The edge walk one sub-scanline at a time (46_edge_walker.md R368 to R389): what a step does to the edges, to the bounds of the
row in progress and to the span buffer, said once; and from it what every row that the walk leaves was made of. -/

namespace Sys2Proof.Machine

/-! ## The edges and the bounds of the open row -/

/-- Where the two edges of a walk are, and the step of the minor one (46_edge_walker.md R364). -/
structure Edges where
  xleft : Int
  xright : Int
  leftInc : Int

/-- The accumulators of the open row (46_edge_walker.md R382). -/
structure RowBounds where
  minor : Int
  major : Int
  allover : Bool
  allunder : Bool
  allinval : Bool

/-- The edges of a walk. -/
def Walk.edges (w : Walk) : Edges := { xleft := w.xleft, xright := w.xright, leftInc := w.leftInc }

/-- The accumulators of the row a walk has open. -/
def Walk.bounds (w : Walk) : RowBounds :=
  { minor := w.minor, major := w.major, allover := w.allover, allunder := w.allunder, allinval := w.allinval }

/-- The edges in sub-scanline `k`: at `YM` the minor edge becomes the low one (46_edge_walker.md R369, R370). -/
def Edges.switch (p : WalkPlan) (k : Int) (e : Edges) : Edges :=
  if k = p.ym then { e with xleft := p.lowLeft, leftInc := p.lowLeftInc } else e

/-- The edges one sub-scanline on (46_edge_walker.md R370). -/
def Edges.next (p : WalkPlan) (e : Edges) : Edges :=
  { e with xleft := sext 32 (e.xleft + e.leftInc), xright := sext 32 (e.xright + p.rightInc) }

/-- The accumulators before the first sub-scanline of a row (46_edge_walker.md R382). -/
def RowBounds.start (flip : Bool) : RowBounds :=
  { minor := if flip then 0 else 0xfff, major := if flip then 0xfff else 0, allover := true, allunder := true, allinval := true }

/-- The column of an edge position after the scissor (46_edge_walker.md R380, R382). -/
def edgeColumn (p : WalkPlan) (x : Int) : Int := zext 12 (asr (scissorX p.clipXh p.clipXl x).pos 3)

/-- `invaly` of sub-scanline `k` (46_edge_walker.md R374). -/
def subInvalid (p : WalkPlan) (k : Int) (e : Edges) : Bool :=
  decide (k < p.yhlimit) || decide (k ≥ p.yllimit) || crossed p.flip e.xleft e.xright

/-- The accumulators with the two columns of a valid sub-scanline taken in (46_edge_walker.md R382). -/
def RowBounds.widen (flip : Bool) (left right : Int) (b : RowBounds) : RowBounds :=
  if flip then { b with minor := max b.minor left, major := min b.major right }
  else { b with minor := min b.minor left, major := max b.major right }

/-- The accumulators after sub-scanline `k` of a row with edges `e` (46_edge_walker.md R382). -/
def RowBounds.take (p : WalkPlan) (k : Int) (e : Edges) (b : RowBounds) : RowBounds :=
  let r := scissorX p.clipXh p.clipXl e.xright
  let l := scissorX p.clipXh p.clipXl e.xleft
  let b := { b with allover := b.allover && r.overR && l.overR, allunder := b.allunder && r.underL && l.underL,
                    allinval := b.allinval && subInvalid p k e }
  if subInvalid p k e then b else b.widen p.flip (edgeColumn p e.xleft) (edgeColumn p e.xright)

/-- A row closed with bounds `b` in scanline `j` (46_edge_walker.md R382, R384). -/
structure ClosedRow (p : WalkPlan) (j : Int) (b : RowBounds) (row : Span) : Prop where
  lx : row.lx = BitVec.ofInt 12 b.minor
  rx : row.rx = BitVec.ofInt 12 b.major
  validline : row.validline = (!b.allinval && !b.allover && !b.allunder && fieldKeeps p j)

/-! ## The stages of a step -/

/-- The first stage of a sub-scanline: a new row at the first one of a scanline (46_edge_walker.md R382). -/
def openRow (p : WalkPlan) (k : Int) (w : Walk) : Walk := if (zext 2 k).toNat = 0 then resetRow p w else w

/-- The second stage: the edges of the sub-scanline, after the scissor, enter the row and its bounds (46_edge_walker.md R380,
R382). -/
def takeEdges (p : WalkPlan) (k : Int) (w : Walk) : Walk :=
  let spix := (zext 2 k).toNat
  let r := scissorX p.clipXh p.clipXl w.xright
  let l := scissorX p.clipXh p.clipXl w.xleft
  let invaly := subInvalid p k w.edges
  let w := { w with allover := w.allover && r.overR && l.overR, allunder := w.allunder && r.underL && l.underL,
                    allinval := w.allinval && invaly,
                    row := { w.row with majorx := setQuad w.row.majorx spix (BitVec.ofInt 13 r.pos),
                                        minorx := setQuad w.row.minorx spix (BitVec.ofInt 13 l.pos),
                                        invalyscan := setQuad w.row.invalyscan spix invaly } }
  if invaly then w else accumulate p w l.pos r.pos

/-- The third stage: the attributes of the row (46_edge_walker.md R385). -/
def bakeRow (p : WalkPlan) (k : Int) (w : Walk) : Walk :=
  if (zext 2 k).toNat = p.ldflag then
    { w with row := { w.row with attrs := bakeAll p w.xright w.attrs, unscrx := BitVec.ofInt 12 (asr w.xright 16) } }
  else w

theorem stepInside_eq (p : WalkPlan) (k : Int) (w : Walk) :
    stepInside p k w =
      if (zext 2 k).toNat = 3 then closeRow p (asr k 2) (bakeRow p k (takeEdges p k (openRow p k w)))
      else bakeRow p k (takeEdges p k (openRow p k w)) := rfl

@[simp] theorem edges_openRow (p : WalkPlan) (k : Int) (w : Walk) : (openRow p k w).edges = w.edges := by
  unfold openRow
  split <;> rfl

@[simp] theorem spans_openRow (p : WalkPlan) (k : Int) (w : Walk) : (openRow p k w).spans = w.spans := by
  unfold openRow
  split <;> rfl

theorem bounds_openRow (p : WalkPlan) (k : Int) (w : Walk) :
    (openRow p k w).bounds = if k % 4 = 0 then .start p.flip else w.bounds := by
  have first : (zext 2 k).toNat = 0 ↔ k % 4 = 0 := by
    simp only [zext]
    omega
  simp only [openRow, first, apply_ite Walk.bounds]
  rfl

@[simp] theorem edges_accumulate (p : WalkPlan) (w : Walk) (l r : Int) : (accumulate p w l r).edges = w.edges := by
  unfold accumulate
  split <;> rfl

theorem bounds_accumulate (p : WalkPlan) (w : Walk) (l r : Int) :
    (accumulate p w l r).bounds = w.bounds.widen p.flip (zext 12 (asr l 3)) (zext 12 (asr r 3)) := by
  unfold accumulate RowBounds.widen
  split <;> rfl

@[simp] theorem edges_takeEdges (p : WalkPlan) (k : Int) (w : Walk) : (takeEdges p k w).edges = w.edges := by
  unfold takeEdges
  dsimp only
  split
  · rfl
  · exact edges_accumulate ..

@[simp] theorem spans_takeEdges (p : WalkPlan) (k : Int) (w : Walk) : (takeEdges p k w).spans = w.spans := by
  unfold takeEdges
  dsimp only
  split
  · rfl
  · exact spans_accumulate ..

@[simp] theorem bounds_takeEdges (p : WalkPlan) (k : Int) (w : Walk) :
    (takeEdges p k w).bounds = w.bounds.take p k w.edges := by
  unfold takeEdges RowBounds.take
  dsimp only
  rw [apply_ite Walk.bounds, bounds_accumulate]
  rfl

@[simp] theorem edges_bakeRow (p : WalkPlan) (k : Int) (w : Walk) : (bakeRow p k w).edges = w.edges := by
  unfold bakeRow
  split <;> rfl

@[simp] theorem spans_bakeRow (p : WalkPlan) (k : Int) (w : Walk) : (bakeRow p k w).spans = w.spans := by
  unfold bakeRow
  split <;> rfl

@[simp] theorem bounds_bakeRow (p : WalkPlan) (k : Int) (w : Walk) : (bakeRow p k w).bounds = w.bounds := by
  unfold bakeRow
  split <;> rfl

/-- A closed row enters the span buffer, if the buffer has it (46_edge_walker.md R382, R389). -/
theorem spans_closeRow (p : WalkPlan) (j : Int) (w : Walk) : ∃ row, ClosedRow p j w.bounds row ∧
    (closeRow p j w).spans = if 0 ≤ j ∧ j < 1024 then Cells.write Span.zero w.spans j.toNat row else w.spans :=
  ⟨_, ⟨rfl, rfl, rfl⟩, rfl⟩

/-! ## One sub-scanline inside the limits -/

@[simp] theorem edges_stepInside (p : WalkPlan) (k : Int) (w : Walk) : (stepInside p k w).edges = w.edges := by
  have close (j : Int) (v : Walk) : (closeRow p j v).edges = v.edges := rfl
  rw [stepInside_eq]
  split <;> simp only [close, edges_bakeRow, edges_takeEdges, edges_openRow]

theorem bounds_stepInside (p : WalkPlan) (k : Int) (w : Walk) :
    (stepInside p k w).bounds = (if k % 4 = 0 then .start p.flip else w.bounds).take p k w.edges := by
  have close (j : Int) (v : Walk) : (closeRow p j v).bounds = v.bounds := rfl
  rw [stepInside_eq]
  split <;> simp only [close, bounds_bakeRow, bounds_takeEdges, bounds_openRow, edges_openRow]

theorem spans_stepInside_mid {p : WalkPlan} {k : Int} (hk : k % 4 ≠ 3) (w : Walk) : (stepInside p k w).spans = w.spans := by
  have mid : (zext 2 k).toNat ≠ 3 := by
    simp only [zext]
    omega
  rw [stepInside_eq, if_neg mid, spans_bakeRow, spans_takeEdges, spans_openRow]

theorem spans_stepInside_last {p : WalkPlan} {k : Int} (hk : k % 4 = 3) (w : Walk) :
    ∃ row, ClosedRow p (k / 4) (stepInside p k w).bounds row ∧ (stepInside p k w).spans =
      if 0 ≤ k / 4 ∧ k / 4 < 1024 then Cells.write Span.zero w.spans (k / 4).toNat row else w.spans := by
  have last : (zext 2 k).toNat = 3 := by
    simp only [zext]
    omega
  obtain ⟨row, closed, written⟩ := spans_closeRow p (k / 4) (bakeRow p k (takeEdges p k (openRow p k w)))
  rw [stepInside_eq, if_pos last]
  exact ⟨row, closed, written.trans (by rw [spans_bakeRow, spans_takeEdges, spans_openRow])⟩

/-! ## One step -/

section
variable {p : WalkPlan} {w : Walk} {k : Int}

/-- The walk with its minor edge switched, if `k` is `YM` (46_edge_walker.md R369). -/
def switchEdge (p : WalkPlan) (w : Walk) (k : Int) : Walk :=
  if k = p.ym then { w with xleft := p.lowLeft, leftInc := p.lowLeftInc } else w

@[simp] theorem edges_switchEdge : (switchEdge p w k).edges = w.edges.switch p k := by
  unfold switchEdge Edges.switch
  split <;> rfl

@[simp] theorem bounds_switchEdge : (switchEdge p w k).bounds = w.bounds := by
  unfold switchEdge
  split <;> rfl

@[simp] theorem spans_switchEdge : (switchEdge p w k).spans = w.spans := by
  unfold switchEdge
  split <;> rfl

/-- What a step does to a part of the walk that neither the per-scanline step nor the edges reach (46_edge_walker.md R370). -/
theorem walkStep_part {α : Type} (f : Walk → α)
    (attrs : ∀ v a, f { v with attrs := a } = f v) (moved : ∀ v l r, f { v with xleft := l, xright := r } = f v) :
    f (walkStep p w k) = f (if k ≥ p.yhclose then stepInside p k (switchEdge p w k) else switchEdge p w k) := by
  unfold walkStep
  dsimp only
  rw [moved, ← switchEdge]
  split
  · exact attrs _ _
  · rfl

theorem bounds_walkStep : (walkStep p w k).bounds =
    if p.yhclose ≤ k then (if k % 4 = 0 then .start p.flip else w.bounds).take p k (w.edges.switch p k) else w.bounds := by
  rw [walkStep_part Walk.bounds (fun _ _ => rfl) (fun _ _ _ => rfl), apply_ite Walk.bounds, bounds_stepInside,
    bounds_switchEdge, edges_switchEdge]

theorem edges_walkStep : (walkStep p w k).edges = (w.edges.switch p k).next p := by
  have inside : (if k ≥ p.yhclose then stepInside p k (switchEdge p w k) else switchEdge p w k).edges = w.edges.switch p k := by
    split <;> simp only [edges_stepInside, edges_switchEdge]
  unfold walkStep
  dsimp only
  rw [← inside, ← switchEdge]
  generalize (if k ≥ p.yhclose then stepInside p k (switchEdge p w k) else switchEdge p w k) = v
  split <;> rfl

/-- A step that closes no row leaves the span buffer. -/
theorem spans_walkStep_open (h : k < p.yhclose ∨ k % 4 ≠ 3) : (walkStep p w k).spans = w.spans := by
  rw [walkStep_part Walk.spans (fun _ _ => rfl) (fun _ _ _ => rfl)]
  split
  · rw [spans_stepInside_mid (by omega), spans_switchEdge]
  · exact spans_switchEdge

/-- The step at the last sub-scanline of a scanline closes its row, with the bounds of all four. -/
theorem spans_walkStep_close (hk : p.yhclose ≤ k) (last : k % 4 = 3) :
    ∃ row, ClosedRow p (k / 4) (walkStep p w k).bounds row ∧ (walkStep p w k).spans =
      if 0 ≤ k / 4 ∧ k / 4 < 1024 then Cells.write Span.zero w.spans (k / 4).toNat row else w.spans := by
  obtain ⟨row, closed, written⟩ := spans_stepInside_last (p := p) last (switchEdge p w k)
  rw [walkStep_part Walk.spans (fun _ _ => rfl) (fun _ _ _ => rfl), walkStep_part Walk.bounds (fun _ _ => rfl) (fun _ _ _ => rfl),
    if_pos hk]
  exact ⟨row, closed, by rwa [spans_switchEdge] at written⟩

end

/-! ## Every row of a walk -/

/-- A fold over a range of integers, by an invariant on the number that is next. -/
theorem foldl_rangeTo_induct {β : Type} {P : Int → β → Prop} {f : β → Int → β} {first last : Int} {b : β} (init : P first b)
    (step : ∀ k b, first ≤ k → P k b → P (k + 1) (f b k)) : ∃ k, last < k ∧ P k ((rangeTo first last).foldl f b) := by
  have count (n : Nat) : P (first + n) (((List.range n).map fun (i : Nat) => first + (i : Int)).foldl f b) := by
    induction n with
    | zero => exact (Int.add_zero first).symm ▸ init
    | succ n ih =>
      rw [List.range_succ, List.map_append, List.foldl_append, Int.natCast_succ, ← Int.add_assoc]
      exact step _ _ (by omega) ih
  exact ⟨_, by omega, count (last - first + 1).toNat⟩

/-- What a proof about the rows of a walk shows of one sub-scanline: `E` is kept of the edges, and `B j n` holds of the bounds of
row `j` after `n` of its sub-scanlines, with edges of which `E` holds. -/
structure RowRule (p : WalkPlan) (E : Edges → Prop) (B : Int → Nat → RowBounds → Prop) : Prop where
  edges : ∀ k e, E e → E ((e.switch p k).next p)
  start : ∀ j, B j 0 (.start p.flip)
  take : ∀ j n e b, n < 4 → E e → B j n b → B j (n + 1) (b.take p (4 * j + n) (e.switch p (4 * j + n)))

/-- The walk before sub-scanline `k`: of the open row and of every closed one its bounds have `B`; a row not closed is empty. -/
structure WalkAt (p : WalkPlan) (E : Edges → Prop) (B : Int → Nat → RowBounds → Prop) (first k : Int) (w : Walk) : Prop where
  edges : E w.edges
  canonical : Cells.wf Span.zero 1024 w.spans = true
  bounds : p.yhclose < k → k % 4 ≠ 0 → B (k / 4) (k % 4).toNat w.bounds
  rows : ∀ j, 0 ≤ j → j < 1024 → (∃ b, B j 4 b ∧ ClosedRow p j b (Cells.read Span.zero w.spans j.toNat)) ∨
    (Cells.read Span.zero w.spans j.toNat = Span.zero ∧ (4 * j < first ∨ 4 * j < p.yhclose ∨ k < 4 * j + 4))

section
variable {p : WalkPlan} {E : Edges → Prop} {B : Int → Nat → RowBounds → Prop} (rule : RowRule p E B) {first k : Int} {w : Walk}
  (close : p.yhclose % 4 = 0)
include rule close

/-- The bounds after sub-scanline `k` are those of its row after one more. -/
theorem WalkAt.bounds_walkStep (h : WalkAt p E B first k w) (hk : p.yhclose ≤ k) :
    B (k / 4) ((k % 4).toNat + 1) (walkStep p w k).bounds := by
  have place : 4 * (k / 4) + ((k % 4).toNat : Int) = k := by omega
  have before : B (k / 4) (k % 4).toNat (if k % 4 = 0 then .start p.flip else w.bounds) := by
    split
    · rename_i first
      rw [first]
      exact rule.start _
    · exact h.bounds (by omega) ‹_›
  rw [Machine.bounds_walkStep, if_pos hk]
  simpa only [place] using rule.take (k / 4) (k % 4).toNat w.edges _ (by omega) h.edges before

theorem WalkAt.step (h : WalkAt p E B first k w) : WalkAt p E B first (k + 1) (walkStep p w k) where
  edges := by
    rw [edges_walkStep]
    exact rule.edges k _ h.edges
  canonical := spansWf_walkStep p k h.canonical
  bounds hk mid := by
    have taken := h.bounds_walkStep rule close (by omega)
    rwa [show (k + 1) / 4 = k / 4 by omega, show ((k + 1) % 4).toNat = (k % 4).toNat + 1 by omega]
  rows j low high := by
    by_cases closes : p.yhclose ≤ k ∧ k % 4 = 3
    · obtain ⟨hk, last⟩ := closes
      obtain ⟨row, closed, written⟩ := spans_walkStep_close (w := w) hk last
      have taken := h.bounds_walkStep rule close hk
      rw [show (k % 4).toNat + 1 = 4 by omega] at taken
      by_cases this : j = k / 4
      · subst this
        rw [written, if_pos ⟨low, high⟩, Cells.read_write _ _ (Cells.wf_rising h.canonical), if_pos rfl]
        exact .inl ⟨_, taken, closed⟩
      · have kept : Cells.read Span.zero (walkStep p w k).spans j.toNat = Cells.read Span.zero w.spans j.toNat := by
          rw [written]
          split
          · rw [Cells.read_write _ _ (Cells.wf_rising h.canonical), if_neg (by omega)]
          · rfl
        rw [kept]
        exact (h.rows j low high).imp_right fun ⟨zero, out⟩ => ⟨zero, by omega⟩
    · rw [spans_walkStep_open (by omega)]
      exact (h.rows j low high).imp_right fun ⟨zero, out⟩ => ⟨zero, by omega⟩

end

theorem clearLow_aligned (v : Int) (n : Nat) : clearLow v n % 2 ^ n = 0 := by
  rw [clearLow]
  exact Int.emod_eq_zero_of_dvd Int.dvd_self_sub_emod

theorem WalkAt.start {s : State} {q : Primitive} {E : Edges → Prop} (B : Int → Nat → RowBounds → Prop)
    (init : E (walkStart q).edges) : WalkAt (walkPlan s q) E B (walkPlan s q).ycur (walkPlan s q).ycur (walkStart q) where
  edges := init
  canonical := rfl
  bounds _ mid := absurd (clearLow_aligned q.yh 2) mid
  rows j _ _ := .inr ⟨rfl, by omega⟩

/-- The rows that a walk leaves in the span buffer: `B` holds of the bounds of each it has closed, and the others are empty. It
closes those of the buffer from the first of its limits to the last (46_edge_walker.md R368, R370, R382, R389). -/
theorem spanRow_walkSpans {s : State} {q : Primitive} {E : Edges → Prop} {B : Int → Nat → RowBounds → Prop}
    (rule : RowRule (walkPlan s q) E B) (init : E (walkStart q).edges) (j : Int) :
    (∃ b, B j 4 b ∧ ClosedRow (walkPlan s q) j b (spanRow (walkSpans s q) j)) ∨
      (spanRow (walkSpans s q) j = Span.zero ∧
        (j < 0 ∨ 1024 ≤ j ∨ 4 * j < (walkPlan s q).ycur ∨ 4 * j < (walkPlan s q).yhclose ∨ (walkPlan s q).ylfar < 4 * j + 3)) := by
  obtain ⟨k, hk, done⟩ := foldl_rangeTo_induct (last := (walkPlan s q).ylfar) (WalkAt.start (s := s) B init)
    fun k w _ h => h.step rule (clearLow_aligned _ 2)
  by_cases inside : 0 ≤ j ∧ j < 1024
  · rw [spanRow, if_pos inside]
    exact (done.rows j inside.1 inside.2).imp_right fun ⟨zero, out⟩ => ⟨zero, by omega⟩
  · exact .inr ⟨if_neg inside, by omega⟩

end Sys2Proof.Machine
end

section
/-! The scissor confines the rows of a walk (46_edge_walker.md R372, R380, R384, R392 (e)), and an empty one leaves none. -/

namespace Sys2Proof.Machine

/-! ## The horizontal scissor -/

/-- The right side of the scissor, at an edge already held to its left side (46_edge_walker.md R380). -/
theorem overR_eq_of_held {hi v : Int} (h0 : 0 ≤ hi) (h1 : hi < 2 ^ 13) (v0 : 0 ≤ v) (v1 : v < 2 ^ 14) :
    (bitAt v 13 || decide (zext 13 v ≥ hi)) = decide (hi ≤ v) ∧ zext 13 (if hi ≤ v then hi else v) = min v hi := by
  constructor
  · rw [Bool.eq_iff_iff]
    simp only [Bool.or_eq_true, decide_eq_true_eq]
    simp only [bitAt, zext, beq_iff_eq]
    omega
  · rw [zext]
    split <;> omega

section
variable {clipXh clipXl : Int} (hxh : 0 ≤ clipXh) (hxl : 0 ≤ clipXl) (bxh : clipXh < 4096) (bxl : clipXl < 4096)
include hxh hxl bxh bxl

/-- An edge after the scissor, in eighths of a pixel: held to the left side, then to the right side, which decides alone whether
it is over (46_edge_walker.md R380). -/
theorem scissorX_spec (x : Int) : ∃ v, 2 * clipXh ≤ v ∧ (scissorX clipXh clipXl x).overR = decide (clipXl * 2 ≤ v) ∧
    (scissorX clipXh clipXl x).pos = min v (clipXl * 2) := by
  have held (v : Int) (h0 : 2 * clipXh ≤ v) (h1 : v < 2 ^ 14) :
      ∃ u, 2 * clipXh ≤ u ∧ (bitAt v 13 || decide (zext 13 v ≥ clipXl * 2)) = decide (clipXl * 2 ≤ u) ∧
        zext 13 (if bitAt v 13 || decide (zext 13 v ≥ clipXl * 2) then clipXl * 2 else v) = min u (clipXl * 2) := by
    obtain ⟨beyond, pos⟩ := overR_eq_of_held (hi := clipXl * 2) (v := v) (by omega) (by omega) (by omega) h1
    exact ⟨v, h0, beyond, by simpa only [beyond, decide_eq_true_eq] using pos⟩
  unfold scissorX
  dsimp only
  refine held _ ?_ ?_
  all_goals
    generalize sticky : (if bitsAt x 1 13 > 0 then 1 else 0 : Int) = b
    have b0 : 0 ≤ b ∧ b ≤ 1 := by
      subst sticky
      split <;> omega
    simp only [Bool.or_eq_true, Bool.and_eq_true, Bool.not_eq_true', decide_eq_true_eq]
    simp only [bitAt, bitsAt, beq_iff_eq, beq_eq_false_iff_ne]
    split <;> omega

/-- With a scissor of no width every edge is over its right side (46_edge_walker.md R392 (e)). -/
theorem overR_of_empty (empty : clipXl ≤ clipXh) (x : Int) : (scissorX clipXh clipXl x).overR = true := by
  obtain ⟨v, left, beyond, -⟩ := scissorX_spec hxh hxl bxh bxl x
  rw [beyond, decide_eq_true_eq]
  omega

/-- With a scissor that is not inverted every edge is in its columns (46_edge_walker.md R380). -/
theorem column_of_scissorX (order : clipXh ≤ clipXl) (x : Int) :
    clipXh / 4 ≤ zext 12 (asr (scissorX clipXh clipXl x).pos 3) ∧
      zext 12 (asr (scissorX clipXh clipXl x).pos 3) ≤ clipXl / 4 := by
  obtain ⟨v, left, -, pos⟩ := scissorX_spec hxh hxl bxh bxl x
  rw [pos, zext, asr]
  omega

end

/-! ## The bounds of a row -/

section
variable {p : WalkPlan} {k : Int} {e : Edges} {b : RowBounds}

@[simp] theorem allover_widen (flip : Bool) (l r : Int) : (b.widen flip l r).allover = b.allover := by
  unfold RowBounds.widen
  split <;> rfl

@[simp] theorem allunder_widen (flip : Bool) (l r : Int) : (b.widen flip l r).allunder = b.allunder := by
  unfold RowBounds.widen
  split <;> rfl

@[simp] theorem allinval_widen (flip : Bool) (l r : Int) : (b.widen flip l r).allinval = b.allinval := by
  unfold RowBounds.widen
  split <;> rfl

@[simp] theorem allover_take : (b.take p k e).allover =
    (b.allover && (scissorX p.clipXh p.clipXl e.xright).overR && (scissorX p.clipXh p.clipXl e.xleft).overR) := by
  unfold RowBounds.take
  dsimp only
  split <;> simp only [allover_widen]

@[simp] theorem allunder_take : (b.take p k e).allunder =
    (b.allunder && (scissorX p.clipXh p.clipXl e.xright).underL && (scissorX p.clipXh p.clipXl e.xleft).underL) := by
  unfold RowBounds.take
  dsimp only
  split <;> simp only [allunder_widen]

@[simp] theorem allinval_take : (b.take p k e).allinval = (b.allinval && subInvalid p k e) := by
  unfold RowBounds.take
  dsimp only
  split <;> simp only [allinval_widen]

/-- The bounds of an open row: as they started, until a valid sub-scanline is taken in; then the minor one has `L` and the major
one `R`. -/
structure RowBounds.Columns (flip : Bool) (L R : Int → Prop) (b : RowBounds) : Prop where
  untouched : b.allinval = true → b.minor = (start flip).minor ∧ b.major = (start flip).major
  touched : b.allinval = false → L b.minor ∧ R b.major

theorem RowBounds.Columns.start (flip : Bool) (L R : Int → Prop) : (RowBounds.start flip).Columns flip L R :=
  ⟨fun _ => ⟨rfl, rfl⟩, fun h => by cases h⟩

/-- The columns of the first valid sub-scanline replace the start values. -/
theorem widen_start (flip : Bool) {b : RowBounds}
    (h : b.minor = (RowBounds.start flip).minor ∧ b.major = (RowBounds.start flip).major)
    {l r : Int} (l0 : 0 ≤ l) (l1 : l ≤ 0xfff) (r0 : 0 ≤ r) (r1 : r ≤ 0xfff) :
    (b.widen flip l r).minor = l ∧ (b.widen flip l r).major = r := by
  rw [RowBounds.widen]
  obtain ⟨hmin, hmaj⟩ := h
  simp only [RowBounds.start] at hmin hmaj
  cases flip
  case false =>
    simp only [Bool.false_eq_true, if_false] at hmin hmaj ⊢
    omega
  case true =>
    simp only [if_true] at hmin hmaj ⊢
    omega

/-- Each bound after a valid sub-scanline is the one before or the column of its edge. -/
theorem widen_choice (flip : Bool) (b : RowBounds) (l r : Int) :
    ((b.widen flip l r).minor = b.minor ∨ (b.widen flip l r).minor = l) ∧
      ((b.widen flip l r).major = b.major ∨ (b.widen flip l r).major = r) := by
  unfold RowBounds.widen
  split
  all_goals
    dsimp only
    omega

theorem edgeColumn_range (p : WalkPlan) (x : Int) : 0 ≤ edgeColumn p x ∧ edgeColumn p x ≤ 0xfff := by
  simp only [edgeColumn, zext]
  omega

theorem bounds_take_invalid (h : subInvalid p k e = true) : (b.take p k e).minor = b.minor ∧ (b.take p k e).major = b.major := by
  simp only [RowBounds.take, h, if_true, and_self]

theorem bounds_take_valid (h : subInvalid p k e = false) :
    (b.take p k e).minor = (b.widen p.flip (edgeColumn p e.xleft) (edgeColumn p e.xright)).minor ∧
      (b.take p k e).major = (b.widen p.flip (edgeColumn p e.xleft) (edgeColumn p e.xright)).major := by
  simp only [RowBounds.take, h, Bool.false_eq_true, if_false, RowBounds.widen]
  cases p.flip <;> exact ⟨rfl, rfl⟩

/-- What holds of the columns of the edges of a sub-scanline holds of the bounds that took it in. -/
theorem RowBounds.Columns.take {L R : Int → Prop} (h : b.Columns p.flip L R) (hl : L (edgeColumn p e.xleft))
    (hr : R (edgeColumn p e.xright)) : (b.take p k e).Columns p.flip L R := by
  cases valid : subInvalid p k e
  case true =>
    obtain ⟨minor, major⟩ := bounds_take_invalid (b := b) valid
    have inval : (b.take p k e).allinval = b.allinval := by rw [allinval_take, valid, Bool.and_true]
    exact ⟨fun i => minor ▸ major ▸ h.untouched (inval ▸ i), fun i => minor ▸ major ▸ h.touched (inval ▸ i)⟩
  case false =>
    have inval : (b.take p k e).allinval = false := by rw [allinval_take, valid, Bool.and_false]
    refine ⟨fun i => absurd (inval.symm.trans i) Bool.false_ne_true, fun _ => ?_⟩
    obtain ⟨l0, l1⟩ := edgeColumn_range p e.xleft
    obtain ⟨r0, r1⟩ := edgeColumn_range p e.xright
    obtain ⟨minor, major⟩ := bounds_take_valid (b := b) valid
    rw [minor, major]
    cases inval : b.allinval
    case true =>
      obtain ⟨first, last⟩ := widen_start p.flip (h.untouched inval) l0 l1 r0 r1
      rw [first, last]
      exact ⟨hl, hr⟩
    case false =>
      obtain ⟨hmin, hmaj⟩ := h.touched inval
      obtain ⟨first, last⟩ := widen_choice p.flip b (edgeColumn p e.xleft) (edgeColumn p e.xright)
      exact ⟨by rcases first with e | e <;> rwa [e], by rcases last with e | e <;> rwa [e]⟩

end

theorem unsigned_ofInt {v : Int} (h0 : 0 ≤ v) (h1 : v < 4096) : unsigned (BitVec.ofInt 12 v) = v := by
  rw [unsigned, BitVec.toNat_ofInt]
  omega

/-! ## The limits -/

theorem sext_range (n : Nat) (v : Int) : -2 ^ n ≤ sext (n + 1) v ∧ sext (n + 1) v < 2 ^ n := by
  have size : (2 : Int) ^ (n + 1) = 2 ^ n * 2 := Int.pow_succ 2 n
  have pos : (0 : Int) < 2 ^ (n + 1) := Int.pow_pos (by decide)
  have low := Int.emod_nonneg v (b := 2 ^ (n + 1)) (Int.ne_of_gt pos)
  have high := Int.emod_lt_of_pos v (b := 2 ^ (n + 1)) pos
  rw [sext, Nat.add_sub_cancel]
  split <;> omega

/-- The two bits that decide whether a 14-bit coordinate is outside the scissor's 12 (46_edge_walker.md R372). -/
theorem bitAt_coordinate {y : Int} (h0 : -2 ^ 13 ≤ y) (h1 : y < 2 ^ 13) :
    bitAt y 13 = decide (y < 0) ∧ (0 ≤ y → bitAt y 12 = decide (4096 ≤ y)) := by
  have bit (v : Int) (c : Prop) [Decidable c] (h : v = 1 ↔ c) : (v == 1) = decide c := by
    rw [Bool.eq_iff_iff, beq_iff_eq, decide_eq_true_eq, h]
  exact ⟨bit _ _ (by omega), fun _ => bit _ _ (by omega)⟩

/-- The walk starts at the lower of its top and the scissor's (46_edge_walker.md R372). -/
theorem yhLimit_eq {yh clipYh : Int} (h0 : -2 ^ 13 ≤ yh) (h1 : yh < 2 ^ 13) (c0 : 0 ≤ clipYh) (c1 : clipYh < 4096) :
    yhLimit yh clipYh = max yh clipYh := by
  obtain ⟨negative, beyond⟩ := bitAt_coordinate h0 h1
  rw [yhLimit, negative]
  by_cases h : yh < 0
  · simp only [decide_eq_true h, if_true, Bool.false_eq_true, if_false]
    omega
  · rw [beyond (Int.not_lt.1 h)]
    by_cases far : 4096 ≤ yh
    · simp only [decide_eq_false h, decide_eq_true far, Bool.false_eq_true, if_false, if_true]
      omega
    · simp only [decide_eq_false h, decide_eq_false far, Bool.false_eq_true, if_false, decide_eq_true_eq]
      split <;> omega

/-- The walk ends at the higher of its bottom and the scissor's (46_edge_walker.md R372). -/
theorem ylLimit_eq {yl clipYl : Int} (h0 : -2 ^ 13 ≤ yl) (h1 : yl < 2 ^ 13) (c0 : 0 ≤ clipYl) (c1 : clipYl < 4096) :
    ylLimit yl clipYl = min yl clipYl := by
  obtain ⟨negative, beyond⟩ := bitAt_coordinate h0 h1
  rw [ylLimit, negative]
  by_cases h : yl < 0
  · simp only [decide_eq_true h, if_true]
    omega
  · rw [beyond (Int.not_lt.1 h)]
    by_cases far : 4096 ≤ yl
    · simp only [decide_eq_false h, decide_eq_true far, Bool.false_eq_true, if_false, if_true]
      omega
    · have low : zext 12 yl = yl := Int.emod_eq_of_lt (Int.not_lt.1 h) (by omega)
      simp only [decide_eq_false h, decide_eq_false far, low, Bool.false_eq_true, if_false, decide_eq_true_eq]
      split <;> omega

/-- The coordinates of a block have 14 bits (46_edge_walker.md R361). -/
theorem decodeEw_rows (ew : List Word) :
    (-2 ^ 13 ≤ (decodeEw ew).yl ∧ (decodeEw ew).yl < 2 ^ 13) ∧ (-2 ^ 13 ≤ (decodeEw ew).yh ∧ (decodeEw ew).yh < 2 ^ 13) :=
  ⟨sext_range 13 _, sext_range 13 _⟩

theorem unsigned_range {n : Nat} (v : BitVec n) : 0 ≤ unsigned v ∧ unsigned v < 2 ^ n :=
  ⟨Int.natCast_nonneg _, by unfold unsigned; exact_mod_cast v.isLt⟩

theorem yStart_primOf (s : State) (i : Instr) : yStart s (primOf s i) = max (primOf s i).yh (unsigned s.clipYh) / 4 := by
  obtain ⟨-, h0, h1⟩ := decodeEw_rows (blockOf s.mode.cycleType i)
  obtain ⟨c0, c1⟩ := unsigned_range s.clipYh
  exact congrArg (· / 4) (yhLimit_eq h0 h1 c0 c1)

theorem yEnd_primOf (s : State) (i : Instr) : yEnd s (primOf s i) = min (primOf s i).yl (unsigned s.clipYl) / 4 := by
  obtain ⟨⟨h0, h1⟩, -⟩ := decodeEw_rows (blockOf s.mode.cycleType i)
  obtain ⟨c0, c1⟩ := unsigned_range s.clipYl
  exact congrArg (· / 4) (ylLimit_eq h0 h1 c0 c1)

/-! ## The rows of a walk -/

/-- Whether column `c` is within the scissor, if that is not inverted (46_edge_walker.md R380). -/
def inScissor (p : WalkPlan) (c : Int) : Prop := p.clipXh ≤ p.clipXl → p.clipXh / 4 ≤ c ∧ c ≤ p.clipXl / 4

/-- The bounds of a row are within the scissor, and in an empty one the row is all over its right side. -/
structure Confined (p : WalkPlan) (b : RowBounds) : Prop where
  columns : b.Columns p.flip (inScissor p) (inScissor p)
  empty : p.clipXl ≤ p.clipXh → b.allover = true

/-- Every row of a walk is confined to the scissor, wherever its edges are. -/
theorem rowRule_confined (s : State) (q : Primitive) :
    RowRule (walkPlan s q) (fun _ => True) fun _ _ b => Confined (walkPlan s q) b := by
  obtain ⟨xh0, xh1⟩ := unsigned_range s.clipXh
  obtain ⟨xl0, xl1⟩ := unsigned_range s.clipXl
  have column (x : Int) : inScissor (walkPlan s q) (edgeColumn (walkPlan s q) x) := fun order =>
    column_of_scissorX xh0 xl0 xh1 xl1 order x
  refine ⟨fun _ _ _ => trivial, fun _ => ⟨.start _ _ _, fun _ => rfl⟩, fun j n e b _ _ h => ⟨?_, fun empty => ?_⟩⟩
  · exact h.columns.take (column _) (column _)
  · have beyond (x : Int) : (scissorX (walkPlan s q).clipXh (walkPlan s q).clipXl x).overR = true :=
      overR_of_empty xh0 xl0 xh1 xl1 empty x
    rw [allover_take, h.empty empty, beyond, beyond]
    rfl

/-- A valid row lies within a scissor that is not empty, and its scanline is one that the interlace fields keep
(46_edge_walker.md R380, R382, R384). -/
theorem validRow_confined {s : State} {q : Primitive} {j : Int} (valid : (spanRow (walkSpans s q) j).validline = true) :
    unsigned s.clipXh < unsigned s.clipXl ∧ unsigned s.clipXh / 4 ≤ cvgFirst q.flip (spanRow (walkSpans s q) j) ∧
      cvgLast q.flip (spanRow (walkSpans s q) j) ≤ unsigned s.clipXl / 4 ∧ fieldKeeps (walkPlan s q) j = true := by
  obtain ⟨xh0, -⟩ := unsigned_range s.clipXh
  obtain ⟨-, xl1⟩ := unsigned_range s.clipXl
  rcases spanRow_walkSpans (rowRule_confined s q) trivial j with ⟨b, confined, closed⟩ | ⟨zero, -⟩
  case inr =>
    rw [zero] at valid
    cases valid
  rw [closed.validline] at valid
  simp only [Bool.and_eq_true, Bool.not_eq_true'] at valid
  obtain ⟨⟨⟨inval, notOver⟩, -⟩, kept⟩ := valid
  have wide : unsigned s.clipXh < unsigned s.clipXl := by
    refine Classical.byContradiction fun empty => ?_
    rw [confined.empty (Int.not_lt.1 empty)] at notOver
    cases notOver
  obtain ⟨minor, major⟩ := confined.columns.touched inval
  have held {v : Int} (h : inScissor (walkPlan s q) v) : unsigned s.clipXh / 4 ≤ unsigned (BitVec.ofInt 12 v) ∧
      unsigned (BitVec.ofInt 12 v) ≤ unsigned s.clipXl / 4 := by
    have range : unsigned s.clipXh / 4 ≤ v ∧ v ≤ unsigned s.clipXl / 4 := h (Int.le_of_lt wide)
    rwa [unsigned_ofInt (by omega) (by omega)]
  obtain ⟨lx0, lx1⟩ := closed.lx ▸ held minor
  obtain ⟨rx0, rx1⟩ := closed.rx ▸ held major
  refine ⟨wide, ?_, ?_, kept⟩
  · cases q.flip <;> assumption
  · cases q.flip <;> assumption

/-- Settles O44: the rows visited are between the limits, and a valid row is confined to the scissor. -/
theorem scissorConfines : Obligations.ScissorConfines := by
  intro i s x y _ visit
  obtain ⟨⟨top, bottom⟩, valid, left, right⟩ := mem_visited_iff.1 visit
  obtain ⟨-, first, last, kept⟩ := validRow_confined valid
  rw [yStart_primOf] at top
  rw [yEnd_primOf] at bottom
  obtain ⟨yh0, -⟩ := unsigned_range s.clipYh
  obtain ⟨-, yl1⟩ := unsigned_range s.clipYl
  have parity : s.scfield = true → y % 2 = if s.sckeepodd then 1 else 0 := by
    intro field
    simp only [fieldKeeps, walkPlan, field, Bool.not_true, Bool.false_or, beq_iff_eq, bitAt_zero] at kept
    cases odd : s.sckeepodd
    case true =>
      rw [odd, Bool.true_xor, Bool.not_eq_false', decide_eq_true_eq] at kept
      exact kept
    case false =>
      rw [odd, Bool.false_xor, decide_eq_false_iff_not] at kept
      simp only [Bool.false_eq_true, if_false]
      omega
  simp only [unsigned] at first last top bottom yh0 yl1
  refine ⟨?_, ?_, ?_, ?_, ?_, ?_, parity⟩ <;> omega

/-! ## An empty scissor -/

/-- A row with no pixel draws nothing from `NOISE`. -/
theorem renderRow_empty {s : State} {two : Bool} {e : PrimEnv} {i : Int} (empty : rowCount e.flip (spanRow e.spans i) = 0)
    (pipe : Pipe) : (renderRow s two e pipe i).seed = pipe.seed := by
  unfold renderRow
  dsimp only
  rw [empty]
  split <;> rfl

theorem copyRow_empty {s : State} {e : PrimEnv} {i : Int} (empty : rowCount e.flip (spanRow e.spans i) = 0)
    (pipe : Pipe) : copyRow s e pipe i = pipe := by
  have groups : (0 + copyGroup s - 1) / copyGroup s = 0 := by
    unfold copyGroup
    split <;> rfl
  unfold copyRow
  dsimp only
  rw [empty, groups]
  rfl

/-- A pipeline that visits no pixel leaves memory and `noise_seed`. -/
theorem renderSpans_empty {s : State} {e : PrimEnv} {ys ye : Int} {pipe pipe' : Pipe} (empty : visited e.flip e.spans ys ye = [])
    (h : renderSpans s e ys ye pipe = some pipe') : pipe'.ram = pipe.ram ∧ pipe'.seed = pipe.seed := by
  have none {xy : Int × Int} : xy ∉ visited e.flip e.spans ys ye := by
    rw [empty]
    exact List.not_mem_nil
  have rows {i : Int} (hi : i ∈ rangeTo ys ye) : rowCount e.flip (spanRow e.spans i) = 0 := by
    refine Classical.byContradiction fun some => ?_
    exact none (mem_visited hi (Nat.pos_of_ne_zero some))
  have cycle (two : Bool) : (renderCycle s two e ys ye pipe).seed = pipe.seed :=
    foldl_keeps (fun q : Pipe => q.seed = pipe.seed) _ _ _ rfl fun q _ hi hq => (renderRow_empty (rows hi) q).trans hq
  refine ⟨renderSpans_keeps (fun ram => ram = pipe.ram) (fun _ _ _ _ _ _ _ hxy => absurd hxy none)
    (fun _ _ _ hxy => absurd hxy none) (fun _ _ _ _ _ hxy => absurd hxy none) rfl h, ?_⟩
  cases hc : s.mode.cycleType <;> simp only [renderSpans, hc, Option.some.injEq] at h
  case one => exact h ▸ cycle false
  case two => exact h ▸ cycle true
  case copy =>
    rw [renderCopy] at h
    split at h
    · cases h
    split at h
    · split at h <;> cases h
      rfl
    · cases h
      exact foldl_keeps (fun q : Pipe => q.seed = pipe.seed) _ _ _ rfl fun q _ hi hq => by rwa [copyRow_empty (rows hi)]
  case fill =>
    rw [renderFill] at h
    split at h <;> cases h
    rfl

/-- A drawing command that visits no pixel leaves memory and `noise_seed`, whether it raises `Crashed` or not. -/
theorem exec_of_no_pixel {i : Instr} {s : State} (hd : drawing i = true) (empty : pixelsOf s i = []) :
    ∃ t, exec i s = .next t ∧ t.ram = s.ram ∧ t.noiseSeed = s.noiseSeed := by
  refine ⟨_, exec_drawing hd s, ?_⟩
  cases hr : renderBlock s (blockOf s.mode.cycleType i) with
  | none =>
    rw [edgeWalk_none hr]
    exact ⟨rfl, rfl⟩
  | some pipe =>
    rw [edgeWalk_some hr]
    rw [renderBlock] at hr
    refine renderSpans_empty (pipe := pipeStart s) ?_ hr
    exact empty

/-- Settles O43: no row is valid, so no pixel is visited. -/
theorem emptyScissor : Obligations.EmptyScissor := by
  intro i s hd narrow
  have empty : pixelsOf s i = [] := by
    refine List.eq_nil_iff_forall_not_mem.2 fun (x, y) visit => ?_
    obtain ⟨-, valid, -, -⟩ := mem_visited_iff.1 visit
    obtain ⟨wide, -⟩ := validRow_confined valid
    simp only [unsigned] at wide
    omega
  exact ⟨empty, exec_of_no_pixel hd empty⟩

end Sys2Proof.Machine
end

section
/-! A fill rectangle inside the scissor (45_primitive_commands.md R338, 46_edge_walker.md R372, R380, R382,
49_depth_coverage_framebuffer.md R580, R597): its edges are vertical, so every row it spans is closed with the same two ends, and a
16-bit image gets the half of `fill_color` that the place of each pixel selects. -/

namespace Sys2Proof.Machine

/-! ## The walk of a rectangle inside the scissor -/

/-- The rectangle `o` is filled, lies within the scissor of `s`, no field of the interlace is dropped, and its last row has a valid
sub-scanline (46_edge_walker.md R372, R374). -/
structure FillInside (s : State) (o : RectOps) : Prop where
  fill : s.mode.cycleType = .fill
  fields : s.scfield = false
  columns : o.xh.toNat ≤ o.xl.toNat
  rows : o.yh.toNat ≤ o.yl.toNat
  left : s.clipXh.toNat ≤ o.xh.toNat
  right : o.xl.toNat < s.clipXl.toNat
  top : s.clipYh.toNat ≤ o.yh.toNat
  bottom : o.yl.toNat < s.clipYl.toNat
  lastRow : o.yh.toNat < o.yl.toNat / 4 * 4 + 3

/-- An edge at a whole position in quarters of a pixel, within the scissor (46_edge_walker.md R380). -/
theorem scissorX_inside {clipXh clipXl c : Int} (h0 : 0 ≤ clipXh) (left : clipXh ≤ c) (right : c < clipXl) (h1 : clipXl < 4096) :
    scissorX clipXh clipXl (c * 2 ^ 14) = { pos := c * 2, underL := false, overR := false } := by
  generalize hx : c * 2 ^ 14 = x
  have whole : bitsAt x 1 13 = 0 := by
    rw [bitsAt]
    omega
  have low : bitsAt x 14 12 = c ∧ bitsAt x 14 13 = c := by
    rw [bitsAt, bitsAt]
    omega
  have high : bitAt x 27 = false ∧ bitAt (c * 2) 13 = false := by
    rw [bitAt, bitAt, beq_eq_false_iff_ne, beq_eq_false_iff_ne]
    omega
  have small : zext 13 (c * 2) = c * 2 := by
    rw [zext]
    omega
  have notUnder : ¬ c * 2 < clipXh * 2 := by omega
  have notOver : ¬ clipXl * 2 ≤ c * 2 := by omega
  simp only [scissorX, whole, low, high, small, notUnder, notOver, gt_iff_lt, Int.lt_irrefl, if_false, Int.add_zero,
    decide_false, Bool.false_and, Bool.or_false, Bool.false_eq_true]

section
variable {s : State} {o : RectOps}

/-- The edges of a rectangle as s16.16 positions, the step of the minor one being 0 (45_primitive_commands.md R334). -/
def rectangleEdges (o : RectOps) : Edges := { xleft := o.xl.toNat * 2 ^ 14, xright := o.xh.toNat * 2 ^ 14, leftInc := 0 }

/-- The lower limit of the rectangle in quarter scanlines, exclusive (45_primitive_commands.md R338, 46_edge_walker.md R372). -/
def fillLimit (s : State) (o : RectOps) : Nat := min (o.yl.toNat / 4 * 4 + 3) s.clipYl.toNat

/-- The plan of the walk of a fill rectangle within the scissor. -/
structure FillPlan (s : State) (o : RectOps) (p : WalkPlan) : Prop where
  flip : p.flip = true
  clipXh : p.clipXh = s.clipXh.toNat
  clipXl : p.clipXl = s.clipXl.toNat
  scfield : p.scfield = false
  lowLeft : p.lowLeft = o.xl.toNat * 2 ^ 14
  lowLeftInc : p.lowLeftInc = 0
  rightInc : p.rightInc = 0
  yhlimit : p.yhlimit = o.yh.toNat
  yllimit : p.yllimit = fillLimit s o
  ycur : p.ycur = o.yh.toNat / 4 * 4
  yhclose : p.yhclose = o.yh.toNat / 4 * 4
  ylfar : p.ylfar = o.yl.toNat / 4 * 4 + 3

theorem fillPlan (h : FillInside s o) : FillPlan s o (walkPlan s (primOf s (.fillRectangle o))) := by
  obtain ⟨-, -, fill⟩ := rectangleBlock
  obtain ⟨⟨flip, -, yl, -, yh, xl, -, -, dxl, dxh, -, -⟩, -⟩ := fill o s
  obtain ⟨yh0, yh1⟩ := unsigned_range s.clipYh
  obtain ⟨yl0, yl1⟩ := unsigned_range s.clipYl
  have bottom : (primOf s (.fillRectangle o)).yl = ((o.yl.toNat / 4 * 4 + 3 : Nat) : Int) := by
    rw [yl, bottomOf, if_pos (.inr h.fill)]
  have top : yhLimit (primOf s (.fillRectangle o)).yh (unsigned s.clipYh) = o.yh.toNat := by
    rw [yh, yhLimit_eq (by omega) (by omega) yh0 yh1]
    exact Int.max_eq_left (Int.ofNat_le.2 h.top)
  have limit : ylLimit ((o.yl.toNat / 4 * 4 + 3 : Nat) : Int) (unsigned s.clipYl) =
      fillLimit s o := by
    rw [ylLimit_eq (by omega) (by omega) yl0 yl1]
    simp only [fillLimit, unsigned]
    omega
  have inside := h.bottom
  have still : clearLow (asr 0 2) 1 = 0 := rfl
  constructor
  case flip => exact flip
  case clipXh => rfl
  case clipXl => rfl
  case scfield => exact h.fields
  case lowLeft =>
    simp only [walkPlan, xl, clearLow]
    omega
  case lowLeftInc =>
    simp only [walkPlan, dxl, still]
  case rightInc =>
    simp only [walkPlan, dxh, still]
  case yhlimit => exact top
  case yllimit => exact (congrArg (ylLimit · _) bottom).trans limit
  case ycur =>
    simp only [walkPlan, yh, clearLow]
    omega
  case yhclose =>
    simp only [walkPlan, top, clearLow]
    omega
  case ylfar =>
    simp only [walkPlan, bottom, limit, ylFar, clearLow, asr, fillLimit]
    split <;> omega

theorem edges_walkStart_fill (s : State) (o : RectOps) : (walkStart (primOf s (.fillRectangle o))).edges = rectangleEdges o := by
  obtain ⟨-, -, fill⟩ := rectangleBlock
  obtain ⟨⟨-, -, -, -, -, -, xm, xh, -, -, dxm, -⟩, -⟩ := fill o s
  have even (n : Nat) : clearLow ((n * 2 ^ 14 : Nat) : Int) 1 = n * 2 ^ 14 := by
    rw [clearLow]
    omega
  simp only [walkStart, Walk.edges, rectangleEdges, xm, xh, dxm, even]
  rfl

section
variable {p : WalkPlan} (plan : FillPlan s o p)
include plan

/-- The edges of a rectangle do not move, and the edge switched to is the same (45_primitive_commands.md R334). -/
theorem FillPlan.edges_switch (k : Int) : (rectangleEdges o).switch p k = rectangleEdges o := by
  unfold Edges.switch rectangleEdges
  rw [plan.lowLeft, plan.lowLeftInc, ite_self]

theorem FillPlan.edges_next : (rectangleEdges o).next p = rectangleEdges o := by
  have stays (x : BitVec 12) : sext 32 ((x.toNat * 2 ^ 14 : Int) + 0) = x.toNat * 2 ^ 14 := by
    simp only [sext]
    split <;> omega
  simp only [Edges.next, rectangleEdges, plan.rightInc, stays]

/-- A sub-scanline of the rectangle is valid exactly between the limits (46_edge_walker.md R372, R374). -/
theorem FillPlan.subInvalid_eq (h : FillInside s o) (k : Int) :
    subInvalid p k (rectangleEdges o) = !decide (o.yh.toNat ≤ k ∧ k < fillLimit s o) := by
  have notCrossed : crossed true (rectangleEdges o).xleft (rectangleEdges o).xright = false := by
    have := h.columns
    rw [crossed, if_pos rfl, decide_eq_false_iff_not]
    simp only [rectangleEdges, edgeKey, bitsAt]
    omega
  rw [subInvalid, plan.flip, notCrossed, plan.yhlimit, plan.yllimit, Bool.or_false, ← Bool.decide_or, ← decide_not]
  exact decide_eq_decide.2 (by omega)

/-- What the scissor makes of the two edges of the rectangle. -/
theorem FillPlan.scissorX_edge (h : FillInside s o) {x : BitVec 12} (hx : o.xh.toNat ≤ x.toNat ∧ x.toNat ≤ o.xl.toNat) :
    scissorX p.clipXh p.clipXl (x.toNat * 2 ^ 14) = { pos := x.toNat * 2, underL := false, overR := false } := by
  have left := h.left
  have right := h.right
  rw [plan.clipXh, plan.clipXl]
  exact scissorX_inside (by omega) (by omega) (by omega) (by omega)

theorem FillPlan.edgeColumn_edge (h : FillInside s o) {x : BitVec 12} (hx : o.xh.toNat ≤ x.toNat ∧ x.toNat ≤ o.xl.toNat) :
    edgeColumn p (x.toNat * 2 ^ 14) = (x.toNat / 4 : Nat) := by
  rw [edgeColumn, plan.scissorX_edge h hx]
  simp only [zext, asr]
  omega

end

/-- The bounds of row `j` of the rectangle after `n` sub-scanlines: those of its two columns once a valid sub-scanline is in. -/
structure FillBounds (s : State) (o : RectOps) (j : Int) (n : Nat) (b : RowBounds) : Prop where
  columns : b.Columns true (· = ((o.xl.toNat / 4 : Nat) : Int)) (· = ((o.xh.toNat / 4 : Nat) : Int))
  inside : 0 < n → b.allover = false ∧ b.allunder = false
  touched : ∀ i < n, (o.yh.toNat : Int) ≤ 4 * j + i → 4 * j + i < fillLimit s o → b.allinval = false

theorem rowRule_fill (h : FillInside s o) :
    RowRule (walkPlan s (primOf s (.fillRectangle o))) (· = rectangleEdges o) (FillBounds s o) := by
  have plan := fillPlan h
  have left := plan.scissorX_edge h (x := o.xl) ⟨h.columns, Nat.le_refl _⟩
  have right := plan.scissorX_edge h (x := o.xh) ⟨Nat.le_refl _, h.columns⟩
  constructor
  case edges =>
    rintro k _ rfl
    rw [plan.edges_switch, plan.edges_next]
  case start =>
    intro j
    rw [plan.flip]
    exact ⟨.start _ _ _, fun none => absurd none (by omega), fun i none => absurd none (by omega)⟩
  case take =>
    rintro j n _ b - rfl ⟨columns, inside, touched⟩
    rw [plan.edges_switch]
    constructor
    case columns =>
      rw [← plan.flip] at columns ⊢
      exact columns.take (plan.edgeColumn_edge h ⟨h.columns, Nat.le_refl _⟩) (plan.edgeColumn_edge h ⟨Nat.le_refl _, h.columns⟩)
    case inside =>
      intro _
      rw [allover_take, allunder_take, rectangleEdges, left, right]
      simp only [Bool.and_false, and_self]
    case touched =>
      intro i hi low high
      rw [allinval_take, plan.subInvalid_eq h]
      rcases Nat.lt_succ_iff_lt_or_eq.1 hi with before | rfl
      · rw [touched i before low high]
        rfl
      · rw [decide_eq_true ⟨low, high⟩]
        exact Bool.and_false _

/-- Every row the rectangle spans is valid, and its ends are the rectangle's columns. -/
theorem fillRow (h : FillInside s o) {j : Int} (top : (o.yh.toNat / 4 : Nat) ≤ j) (bottom : j ≤ (o.yl.toNat / 4 : Nat)) :
    let row := spanRow (walkSpans s (primOf s (.fillRectangle o))) j
    row.validline = true ∧ cvgFirst (primOf s (.fillRectangle o)).flip row = o.xh.toNat / 4 ∧
      cvgLast (primOf s (.fillRectangle o)).flip row = o.xl.toNat / 4 := by
  intro row
  have plan := fillPlan h
  have flip : (primOf s (.fillRectangle o)).flip = true := plan.flip
  rcases spanRow_walkSpans (rowRule_fill h) (edges_walkStart_fill s o) j with ⟨b, bounds, closed⟩ | ⟨-, out⟩
  case inr =>
    rw [plan.ycur, plan.yhclose, plan.ylfar] at out
    omega
  have inval : b.allinval = false := by
    have valid : ∃ i < 4, (o.yh.toNat : Int) ≤ 4 * j + (i : Nat) ∧ 4 * j + (i : Nat) < fillLimit s o := by
      have rows := h.rows
      have lastRow := h.lastRow
      have clip := h.bottom
      have limit : fillLimit s o = min (o.yl.toNat / 4 * 4 + 3) s.clipYl.toNat := rfl
      exact ⟨(max (o.yh.toNat - 4 * j) 0).toNat, by omega, by omega, by omega⟩
    obtain ⟨i, hi, low, high⟩ := valid
    exact bounds.touched i hi low high
  obtain ⟨minor, major⟩ := bounds.columns.touched inval
  obtain ⟨notOver, notUnder⟩ := bounds.inside (by omega)
  have kept : fieldKeeps (walkPlan s (primOf s (.fillRectangle o))) j = true := by
    rw [fieldKeeps, plan.scfield]
    rfl
  have ends (n : Nat) (hn : n < 4096) : (BitVec.ofInt 12 (n : Int)).toNat = n :=
    Int.ofNat.inj (unsigned_ofInt (v := n) (by omega) (by omega))
  refine ⟨?_, ?_, ?_⟩
  · rw [closed.validline, inval, notOver, notUnder, kept]
    rfl
  · rw [cvgFirst, flip, if_pos rfl, closed.rx, major, ends _ (by omega)]
  · rw [cvgLast, flip, if_pos rfl, closed.lx, minor, ends _ (by omega)]

/-- The rows handed to the pipeline are those the rectangle spans (46_edge_walker.md R395). -/
theorem fillRows (h : FillInside s o) : yStart s (primOf s (.fillRectangle o)) = (o.yh.toNat / 4 : Nat) ∧
    yEnd s (primOf s (.fillRectangle o)) = (o.yl.toNat / 4 : Nat) := by
  have start : yStart s (primOf s (.fillRectangle o)) = _ / 4 := congrArg (· / 4) (fillPlan h).yhlimit
  have last : yEnd s (primOf s (.fillRectangle o)) = _ / 4 := congrArg (· / 4) (fillPlan h).yllimit
  have clip := h.bottom
  rw [start, last]
  unfold fillLimit
  omega

/-- The pixels a fill rectangle within the scissor visits (49_depth_coverage_framebuffer.md R597). -/
theorem mem_pixelsOf_fill (h : FillInside s o) (x y : Int) : (x, y) ∈ pixelsOf s (.fillRectangle o) ↔
    (o.xh.toNat / 4 : Nat) ≤ x ∧ x ≤ (o.xl.toNat / 4 : Nat) ∧ (o.yh.toNat / 4 : Nat) ≤ y ∧ y ≤ (o.yl.toNat / 4 : Nat) := by
  obtain ⟨start, last⟩ := fillRows h
  rw [pixelsOf, mem_visited_iff, start, last]
  constructor
  · rintro ⟨⟨top, bottom⟩, -, left, right⟩
    obtain ⟨-, first, last⟩ := fillRow h top bottom
    rw [first] at left
    rw [last] at right
    exact ⟨left, right, top, bottom⟩
  · rintro ⟨left, right, top, bottom⟩
    obtain ⟨valid, first, last⟩ := fillRow h top bottom
    exact ⟨⟨top, bottom⟩, valid, first ▸ left, last ▸ right⟩

theorem length_pixelsOf_fill (h : FillInside s o) : (pixelsOf s (.fillRectangle o)).length =
    (o.xl.toNat / 4 - o.xh.toNat / 4 + 1) * (o.yl.toNat / 4 - o.yh.toNat / 4 + 1) := by
  obtain ⟨start, last⟩ := fillRows h
  have columns := h.columns
  have rows := h.rows
  rw [pixelsOf, length_visited (n := o.xl.toNat / 4 - o.xh.toNat / 4 + 1), start, last]
  · congr 1
    omega
  · intro y top bottom
    obtain ⟨valid, first, last⟩ := fillRow h (start ▸ top) (last ▸ bottom)
    rw [length_rowColumns valid, first, last]
    omega

end

/-! ## The halfwords of a fill -/

/-- The halfword of pixel `xy` in a 16-bit image (49_depth_coverage_framebuffer.md R560). -/
def pixelHalf (s : State) (xy : Int × Int) : Int := fbHalf s (pixelIndex s xy.1 xy.2)

/-- The half of `fill_color` at halfword `i` (49_depth_coverage_framebuffer.md R580). -/
def fillHalf (s : State) (i : Int) : Half := if i % 2 = 1 then s.fillColor.extractLsb 15 0 else s.fillColor.extractLsb 31 16

theorem fbFill_half {s : State} (size : s.fbSize = 2) (ram : Ram) (p : Int) :
    fbFill s ram p = pairWr16 s.cfg ram (fbHalf s p) (fillHalf s (fbHalf s p)) (hidOf ((fillHalf s (fbHalf s p)).getLsbD 0)) := by
  unfold fbFill fillHalf
  simp only [size, bitAt_zero, decide_eq_true_eq]
  rfl

/-- What one step of a fold establishes and the others keep holds at its end. -/
theorem foldl_establishes {α β : Type} (P Q : β → Prop) (f : β → α → β) {l : List α} {a : α} (ha : a ∈ l) {b : β} (init : P b)
    (keep : ∀ b c, P b → P (f b c)) (establish : ∀ b, P b → Q (f b a)) (stay : ∀ b c, c ∈ l → P b → Q b → Q (f b c)) :
    Q (l.foldl f b) := by
  obtain ⟨before, after, rfl⟩ := List.append_of_mem ha
  rw [List.foldl_append, List.foldl_cons]
  have start : P (before.foldl f b) := foldl_keeps P f before b init fun b c _ => keep b c
  exact (foldl_keeps (fun b => P b ∧ Q b) f after _ ⟨keep _ a start, establish _ start⟩ fun b c hc ⟨hp, hq⟩ =>
    ⟨keep b c hp, stay b c (List.mem_append_right _ (List.mem_cons_of_mem _ hc)) hp hq⟩).2

/-- A pixel of a fill reads back its half of `fill_color`, also where other pixels lie in the same halfword. -/
theorem pairRd16_fillPixels {s : State} (size : s.fbSize = 2) {ram : Ram} (ok : ramOk s.cfg ram = true) {l : List (Int × Int)}
    {xy : Int × Int} (hxy : xy ∈ l) (inMem : index32 (pixelHalf s xy) < memSize s.cfg / 2)
    (own : ∀ ab ∈ l, index32 (pixelHalf s ab) = index32 (pixelHalf s xy) → pixelHalf s ab = pixelHalf s xy) :
    pairRd16 s.cfg (fillPixels s ram l) (pixelHalf s xy) =
      (fillHalf s (pixelHalf s xy), hidOf ((fillHalf s (pixelHalf s xy)).getLsbD 0)) := by
  refine foldl_establishes (fun ram => ramOk s.cfg ram = true) (fun ram => pairRd16 s.cfg ram (pixelHalf s xy) = _) _ hxy ok
    (fun ram ab h => ramOk_fbFill h _) (fun ram h => ?_) fun ram ab hab h written => ?_
  · rw [fbFill_half size]
    exact pairRd16_pairWr16 h _ _ _ inMem
  · rw [fbFill_half size, ← pixelHalf]
    by_cases same : index32 (pixelHalf s ab) = index32 (pixelHalf s xy)
    · rw [own ab hab same]
      exact pairRd16_pairWr16 h _ _ _ inMem
    · rw [pairRd16_pairWr16_other h (Ne.symm same)]
      exact written

/-- A drawing command in fill mode fills the pixels it visits, in order (49_depth_coverage_framebuffer.md R580). -/
theorem exec_fillMode {i : Instr} {s : State} (hd : drawing i = true) (fill : s.mode.cycleType = .fill)
    (size : s.fbSize.toNat ≠ 0) : ∃ t, exec i s = .next t ∧ t.ram = fillPixels s s.ram (pixelsOf s i) := by
  refine ⟨_, exec_drawing hd s, ?_⟩
  have rendered : renderBlock s (blockOf s.mode.cycleType i) =
      some { pipeStart s with ram := fillPixels s s.ram (pixelsOf s i) } := by
    simp only [pixelsOf, primOf, renderBlock, renderSpans, afterWalk_mode, fill, renderFill, afterWalk_fbSize, size, if_false]
    rfl
  rw [edgeWalk_some rendered]

/-- In fill mode a 16-bit image is stored to in the halfwords of the pixels visited. -/
theorem half_of_storedBytes {i : Instr} {s : State} (fill : s.mode.cycleType = .fill) (size : s.fbSize = 2) {a : Nat}
    (ha : a ∈ storedBytes s i) : ∃ xy ∈ pixelsOf s i, a / 2 = index32 (pixelHalf s xy) := by
  obtain ⟨xy, hxy, own⟩ := List.mem_flatMap.1 ha
  have color : colorBytes s (pixelIndex s xy.1 xy.2) = unitAddresses 2 (index32 (pixelHalf s xy)) := by
    rw [colorBytes, size, fill]
    rfl
  have depth : depthBytes s (pixelIndex s xy.1 xy.2) = [] := by
    rw [depthBytes, fill]
    exact if_neg fun ⟨_, one⟩ => one.elim (nomatch ·) (nomatch ·)
  rw [color, depth, List.append_nil] at own
  obtain ⟨k, hk, rfl⟩ := List.mem_map.1 own
  have small := List.mem_range.1 hk
  exact ⟨xy, hxy, by omega⟩

/-- Settles O40: the walk closes the rows of the rectangle with its columns, and the fill of a pixel is read back. -/
theorem fillRectangleExact : Obligations.FillRectangleExact := by
  intro o s ok fill size fields columns rows left right top bottom lastRow inside place
  have h : FillInside s o := ⟨fill, fields, columns, rows, left, right, top, bottom, lastRow⟩
  have pixels (x y : Int) : (x, y) ∈ pixelsOf s (.fillRectangle o) ↔ inside x y := mem_pixelsOf_fill h x y
  have half (x y : Int) : pixelHalf s (x, y) = place x y := by
    rw [pixelHalf, fbHalf, asr_unsigned]
    rfl
  have index (x y : Int) (hxy : inside x y) : (index32 (place x y) : Int) = place x y := by
    obtain ⟨x0, x1, y0, y1⟩ := hxy
    have row : 0 ≤ (s.fbWidth.toNat : Int) * y ∧ (s.fbWidth.toNat : Int) * y ≤ 2047 * 1023 :=
      ⟨Int.mul_nonneg (by omega) (by omega), Int.mul_le_mul (by omega) (by omega) (by omega) (by omega)⟩
    simp only [place, index32, zext]
    omega
  obtain ⟨t, ht, ram⟩ := exec_fillMode (i := .fillRectangle o) rfl fill (by rw [size]; decide)
  refine ⟨t, ht, length_pixelsOf_fill h, pixels, fun x y hxy inMem => ?_, fun u outside => ?_⟩
  · rw [ram, ← half]
    refine pairRd16_fillPixels size ok ((pixels x y).2 hxy) ?_ fun ab hab same => ?_
    · have here := index x y hxy
      rw [half]
      omega
    · obtain ⟨a, b⟩ := ab
      rw [half, half] at same ⊢
      rw [← index a b ((pixels a b).1 hab), same, index x y hxy]
  · have out (a : Nat) (ha : a / 2 = u) : a ∉ storedBytes s (.fillRectangle o) := by
      intro stored
      obtain ⟨⟨x, y⟩, visit, e⟩ := half_of_storedBytes fill size stored
      have hxy := (pixels x y).1 visit
      rw [half] at e
      exact outside x y hxy (by rw [← index x y hxy, ← e, ha])
    obtain ⟨bytes, hidden⟩ := drawFrame (.fillRectangle o) s t rfl ok ht
    exact ⟨bytes _ (out _ (by omega)), bytes _ (out _ (by omega)), hidden _ (out _ (by omega))⟩

end Sys2Proof.Machine
end

section
/-! Texel coordinates and the texel filter (47_texture.md R424, R445, R446, R448): the mask confines a coordinate and wraps or mirrors
it, and the filter of four equal texels answers that texel, so a flat texture comes out unchanged. -/

namespace Sys2Proof.Machine

/-! ## Mask and mirror -/

theorem zext_nonneg (n : Nat) (v : Int) : 0 ≤ zext n v := Int.emod_nonneg v (by positivity)

theorem zext_lt (n : Nat) (v : Int) : zext n v < 2 ^ n := Int.emod_lt_of_pos v (by positivity)

/-- The complement reverses the `n`-bit field. -/
theorem zext_inv (n : Nat) (v : Int) : zext n (inv v) = 2 ^ n - 1 - zext n v := by
  have low := zext_nonneg n v
  have high := zext_lt n v
  have whole : inv v = (2 ^ n - 1 - zext n v) + 2 ^ n * (-(v / 2 ^ n) - 1) := by
    have parts := Int.mul_ediv_add_emod v (2 ^ n)
    rw [inv, zext]
    linarith
  calc zext n (inv v) = (2 ^ n - 1 - zext n v) % 2 ^ n := by rw [whole, zext, Int.add_mul_emod_self_left]
    _ = 2 ^ n - 1 - zext n v := Int.emod_eq_of_lt (by omega) (by omega)

@[simp] theorem tcMask_zero (v : Int) (mir : Bool) : tcMask v 0 mir = v := rfl

theorem tcMask_of_ne_zero {m : BitVec 4} (h : m ≠ 0) (v : Int) (mir : Bool) :
    tcMask v m mir = zext (maskClamped m) (if mir && bitAt v (maskClamped m) then inv v else v) :=
  if_neg fun zero => h (BitVec.eq_of_toNat_eq zero)

theorem tcMask_wrap {m : BitVec 4} (h : m ≠ 0) (v : Int) : tcMask v m false = zext (maskClamped m) v := by
  simp [tcMask_of_ne_zero h]

/-- With mirror, the repetitions of an odd number are reversed. -/
theorem tcMask_mirror {m : BitVec 4} (h : m ≠ 0) (v : Int) :
    tcMask v m true = if v / 2 ^ maskClamped m % 2 = 0 then zext (maskClamped m) v
      else 2 ^ maskClamped m - 1 - zext (maskClamped m) v := by
  rw [tcMask_of_ne_zero h, Bool.true_and]
  rcases Int.emod_two_eq_zero_or_one (v / 2 ^ maskClamped m) with even | odd
  · simp [bitAt, even]
  · simp [bitAt, odd, zext_inv]

theorem tcMask_range {m : BitVec 4} (h : m ≠ 0) (v : Int) (mir : Bool) :
    0 ≤ tcMask v m mir ∧ tcMask v m mir < 2 ^ maskClamped m := by
  rw [tcMask_of_ne_zero h]
  exact ⟨zext_nonneg .., zext_lt ..⟩

/-- Settles O56: the mask keeps a field of the coordinate, and the mirror complements it in every second repetition. -/
theorem maskMirror : Obligations.MaskMirror := by
  intro v m mir n
  refine ⟨?_, fun h => ?_, ?_, ?_⟩
  · rintro rfl
    exact tcMask_zero v mir
  · obtain ⟨low, high⟩ := tcMask_range h v mir
    have wider : (2 : Int) ^ n ≤ 2 ^ m.toNat := pow_le_pow_right₀ (by decide) (Nat.min_le_left ..)
    exact ⟨low, high, Int.lt_of_lt_of_le high wider⟩
  · rintro h rfl
    exact tcMask_wrap h v
  · rintro h rfl
    exact tcMask_mirror h v

/-! ## The filter of equal texels -/

/-- Without conversion every difference of R446 is 0, and the rounding of R448 drops what its complement adds. -/
theorem filterOne_flat {f : FilterIn} (plain : f.convert = false) (t : Int) : filterOne f t t t t = t := by
  have centre : inv t + t = -1 := by
    rw [inv]
    omega
  simp [filterOne, plain, centre, asr]

theorem filterQuad_flat {f : FilterIn} (plain : f.convert = false) (c : Rgba Int) : filterQuad f c c c c = c := by
  simp only [filterQuad, filterOne_flat plain]

/-- Settles O57: the texture cycle filters four equal texels, or takes one of them. -/
theorem flatTexture : Obligations.FlatTexture := by
  intro s n cycle1 sss sst prev c flat filters plain
  have answer : texCycle s n cycle1 sss sst prev = mapRgba (zext 9) c := by
    rw [texCycle]
    simp only [flat, filters, plain, if_true]
    cases s.mode.sampleType with
    | true => simp [filterQuad_flat]
    | false => simp
  rw [answer]
  rfl

end Sys2Proof.Machine
end

section
/-! The latch `CRASHED` and the reset of the host (40_command_processor.md R172, 60_exceptions.md R601 to R603,
70_reset_and_hazards.md R641): what a call does while the latch is set, and what a command that sets it has written. -/

namespace Sys2Proof.Machine

/-! ## While the latch is set -/

theorem finishCall_of_crashed {s : State} (hcr : s.crashed = true) :
    finishCall s = { s with cmdq := [], qCur := 0, current := s.endc, call := none } := by simp [finishCall, hcr]

theorem startCall_crashed {s : State} (nonempty : s.current.toNat / 8 < s.endc.toNat / 8) :
    (startCall s).crashed = s.crashed := by
  rw [startCall_range nonempty, withQueue_crashed]

/-- The end of a crashed call does not show that the call began. -/
theorem finishCall_startCall {s : State} (hn : s.call = none) (hcr : s.crashed = true)
    (nonempty : s.current.toNat / 8 < s.endc.toNat / 8) :
    finishCall (startCall s) = { s with cmdq := [], qCur := 0, current := s.endc } := by
  rw [finishCall_of_crashed ((startCall_crashed nonempty).trans hcr), startCall_range nonempty, ← hn]
  rfl

/-- Settles O9: the one step of the call is its end. -/
theorem crashedDropsAll : Obligations.CrashedDropsAll := by
  refine ⟨fun s c hc hcr => ?_, fun s hn hcr nonempty => ?_, fun s hn => step_idle hn⟩
  · rw [step_crashed hc hcr, finishCall_of_crashed hcr]
  · have started := congrArg State.call (startCall_range nonempty)
    have ends := step_crashed started ((startCall_crashed nonempty).trans hcr)
    rw [processCommandList, stepsToIdle_of_step started ends, stepsToIdle_of_idle rfl, finishCall_startCall hn hcr nonempty]

/-- Settles O13: between calls the host reset is `resetLatch`. -/
theorem hostResetEffect : Obligations.HostResetEffect := fun s hn => betweenCalls_idle hn (resetLatch s)

/-! ## What sets the latch -/

/-- The cases of 60_exceptions.md R601, one by one. -/
theorem raises_iff (s : State) (i : Instr) : raises s i = true ↔
    (drawing i = true ∧ s.fbSize = 0 ∧ (s.mode.cycleType = .fill ∨ s.mode.cycleType = .copy)) ∨
      (drawing i = true ∧ s.fbSize = 3 ∧ s.mode.cycleType = .copy ∧ s.cfg.copy32Lockup = true) ∨
      (loading i = true ∧ s.tiSize = 0 ∧ s.cfg.loadLockup = true) ∨
      (s.cfg.loadLockup = true ∧ ∃ o : TileSizeOps, i = .loadTlut o ∧ o.th.toNat / 4 > o.tl.toNat / 4) := by
  unfold raises
  split
  · simp [drawing, loading]
    tauto
  · rename_i other
    have none : ¬ ∃ o : TileSizeOps, i = .loadTlut o ∧ o.th.toNat / 4 > o.tl.toNat / 4 := fun ⟨o, e, _⟩ => other o e
    simp only [none, and_false, Bool.or_false, Bool.or_eq_true, Bool.and_eq_true, beq_iff_eq]
    tauto

/-- The latch after the load loop, in the terms of R601. -/
theorem loadSpans_setExtent_crashed (s : State) (o : TileSizeOps) (k : LoadKind) (ps : List LoadSpan) :
    (loadSpans (setExtent s o) o.tile k ps).crashed = true ↔
      s.crashed = true ∨ (s.tiSize = 0 ∧ s.cfg.loadLockup = true) := by
  have zero : s.tiSize.toNat = 0 ↔ s.tiSize = 0 := BitVec.toNat_inj (y := 0#2)
  rw [loadSpans_crashed]
  simp [zero]

/-- The latch after a load (60_exceptions.md R601). -/
theorem exec_loading_crashed {i : Instr} {s t : State} (hl : loading i = true) (h : exec i s = .next t) :
    t.crashed = true ↔ s.crashed = true ∨ raises s i = true := by
  rw [raises_iff]
  cases i
  case loadTile o =>
    cases h
    simp [loadSpans_setExtent_crashed, drawing, loading]
  case loadBlock o =>
    cases h
    simp [loadSpans_setExtent_crashed, drawing, loading]
  case loadTlut o =>
    by_cases many : o.th.toNat / 4 > o.tl.toNat / 4
    · obtain ⟨u, hu, -, -, latch⟩ := exec_loadTlut_many o s many
      cases hu.symm.trans h
      simp [latch, many, drawing, loading, or_iff_right_of_imp]
    · cases (execLoadTlut_one s o many).symm.trans h
      simp [loadSpans_setExtent_crashed, many, drawing, loading]
  all_goals cases hl

/-- The latch after any command (60_exceptions.md R601). -/
theorem exec_crashed {i : Instr} {s t : State} (h : exec i s = .next t) :
    t.crashed = true ↔ s.crashed = true ∨ raises s i = true := by
  cases hd : drawing i
  case true =>
    cases (exec_drawing hd s).symm.trans h
    rw [edgeWalk_crashed, Bool.or_eq_true, Option.isNone_iff_eq_none, renderBlock_none_iff_raises hd]
  case false =>
    cases hl : loading i
    case true => exact exec_loading_crashed hl h
    case false =>
      obtain ⟨u, hu, -, -, latch, -⟩ := exec_setting hd hl s
      cases hu.symm.trans h
      have other : ¬ ∃ o : TileSizeOps, i = .loadTlut o ∧ o.th.toNat / 4 > o.tl.toNat / 4 := by
        rintro ⟨o, rfl, -⟩
        cases hl
      simp only [latch, raises_iff, hd, hl, other, Bool.false_eq_true, false_and, and_false, or_false]

/-- A load that raises `Crashed` copies nothing (60_exceptions.md R602). -/
theorem load_raises_keeps {i : Instr} {s t : State} (hl : loading i = true) (hr : raises s i = true) (h : exec i s = .next t) :
    t.tmem = s.tmem ∧ t.ram = s.ram := by
  obtain ⟨fourBit, many, -⟩ := loadRefusals
  have draws : drawing i = false := by
    cases i
    case loadTile | loadBlock | loadTlut => rfl
    all_goals cases hl
  rcases (raises_iff s i).1 hr with ⟨hd, -⟩ | ⟨hd, -⟩ | ⟨-, size, -⟩ | ⟨-, o, rfl, rows⟩
  · simp [draws] at hd
  · simp [draws] at hd
  · obtain ⟨u, hu, tmem, ram, -⟩ := fourBit i s hl size
    cases hu.symm.trans h
    exact ⟨tmem, ram⟩
  · obtain ⟨u, hu, tmem, ram, -⟩ := many o s rows
    cases hu.symm.trans h
    exact ⟨tmem, ram⟩

/-- Settles O37: the pipeline refuses exactly where a drawing command raises `Crashed`, and a load that raises it copies
nothing. -/
theorem crashedExactly : Obligations.CrashedExactly := by
  refine ⟨fun i s t h => ?_, fun i s hd hr => ?_, fun i o s t load hr h => ?_⟩
  · rw [exec_crashed h, raises_iff]
  · rw [exec_drawing hd, edgeWalk_none ((renderBlock_none_iff_raises hd s _).2 hr)]
    rfl
  · obtain ⟨-, -, extent⟩ := loadRefusals
    have hl : loading i = true := by rcases load with rfl | rfl | rfl <;> rfl
    obtain ⟨tmem, ram⟩ := load_raises_keeps hl hr h
    exact ⟨tmem, ram, (extent i o s t load h).1⟩

end Sys2Proof.Machine
end

section
/-! The combiner (48_combiner_blender.md R473 to R478): the special 9-bit extension and clamp, and a second stage that passes the
first through. -/

namespace Sys2Proof.Machine

/-- The special extension stands for -128 to 383 (48_combiner_blender.md R473). -/
theorem ext9_range (v : Int) : -128 ≤ ext9 v ∧ ext9 v ≤ 383 ∧ (ext9 v - v) % 512 = 0 := by
  rw [ext9, bitsAt, zext]
  by_cases negative : v / 2 ^ 7 % 2 ^ 2 = 3
  · rw [if_pos negative]
    omega
  · rw [if_neg negative]
    omega

/-- The special clamp is that of the special extension (48_combiner_blender.md R474). -/
theorem clamp9_eq (v : Int) : clamp9 v = max 0 (min (ext9 v) 255) := by
  rw [clamp9, ext9, bitsAt, zext, zext]
  by_cases negative : v / 2 ^ 7 % 2 ^ 2 = 3
  · rw [if_neg (by omega), if_pos negative, if_pos negative]
    omega
  · rw [if_neg negative, if_neg negative]
    by_cases above : v / 2 ^ 7 % 2 ^ 2 = 2
    · rw [if_pos above]
      omega
    · rw [if_neg above]
      omega

theorem ext9_zero : ext9 0 = 0 := rfl

/-- The 9 bits of a value survive the special extension. -/
theorem ext9_emod (v : Int) : ext9 v % 512 = v % 512 := by
  obtain ⟨-, -, congr⟩ := ext9_range v
  omega

/-- An RGB channel through a stage that adds it to nothing (48_combiner_blender.md R475, R476). -/
theorem combRgb_pass (v : Int) : asr (combRgb 0 0 0 v) 8 = v % 512 := by
  have := ext9_emod v
  simp only [combRgb, ext9_zero, asr, zext]
  omega

theorem combA_pass (v : Int) : combA 0 0 0 v = v % 512 := by
  have := ext9_emod v
  simp only [combA, ext9_zero, asr, zext]
  omega

theorem asr_combRgb_range (a b c d : Int) : asr (combRgb a b c d) 8 % 512 = asr (combRgb a b c d) 8 := by
  simp only [combRgb, asr, zext]
  omega

theorem combA_emod (a b c d : Int) : combA a b c d % 512 = combA a b c d := Int.emod_emod_of_dvd _ (by decide)

/-- The selectors of a stage that passes the stage before it through (48_combiner_blender.md R488). -/
def passThrough : CombineSet :=
  { subARgb := 8, subBRgb := 8, mulRgb := 16, addRgb := 0, subAA := 7, subBA := 7, mulA := 7, addA := 0 }

/-- A pass-through stage answers the colour it is given, in 9 bits. -/
theorem stageColor_passThrough (s : State) (i : CombineIn) :
    stageColor (combineStage s i passThrough) = mapRgba (· % 512) i.combined := by
  have stage : combineStage s i passThrough =
      { raw := { r := combRgb 0 0 0 i.combined.r, g := combRgb 0 0 0 i.combined.g, b := combRgb 0 0 0 i.combined.b },
        alpha := combA 0 0 0 i.combined.a, bypass := allThree 0 } := rfl
  simp only [stage, stageColor, combRgb_pass, combA_pass, mapRgba]

/-- The colour of a stage has 9 bits. -/
theorem stageColor_emod (s : State) (i : CombineIn) (c : CombineSet) :
    mapRgba (· % 512) (stageColor (combineStage s i c)) = stageColor (combineStage s i c) := by
  simp only [combineStage, stageColor, mapRgba, asr_combRgb_range, combA_emod]

/-- With `key_en` 0 the later stages see the colour of the last stage only. -/
theorem combineFinish_congr {s : State} (key : s.mode.keyEn = false) {o o' : StageOut} (same : stageColor o = stageColor o')
    (shadeA adith cvg : Int) : combineFinish s o shadeA adith cvg = combineFinish s o' shadeA adith cvg := by
  have alpha : o.alpha = o'.alpha := congrArg Rgba.a same
  simp only [combineFinish, key, same, alpha, Bool.false_eq_true, if_false]

/-- Settles O58: the second stage answers the colour of the first, which is all that is seen with `key_en` 0. -/
theorem combinerIdentity : Obligations.CombinerIdentity := by
  refine ⟨fun v => ?_, fun s c d i next adith cvg key => ?_⟩
  · obtain ⟨low, high, congr⟩ := ext9_range v
    exact ⟨low, high, congr, clamp9_eq v⟩
  · refine combineFinish_congr (s := s) key ?_ _ _ _
    exact (stageColor_passThrough _ _).trans (stageColor_emod _ _ _)

end Sys2Proof.Machine
end

section
/-! The depth code (49_depth_coverage_framebuffer.md R531 to R535, R548): the eight buckets of the 18-bit depths, 2048 codes to a
bucket, and a depth written and read back. -/

namespace Sys2Proof.Machine

/-! ## The buckets -/

/-- Where bucket `e` of the depths begins; the last ends at `2^18`. -/
def bucketStart (e : Nat) : Nat := if e = 8 then 2 ^ 18 else zAdd e

theorem bucketStart_succ : ∀ e < 8, bucketStart (e + 1) = zAdd e + 2 ^ 11 * 2 ^ zShift e := by decide

theorem bucketStart_mono : ∀ e' ≤ 8, ∀ e < e', bucketStart (e + 1) ≤ bucketStart e' := by decide

theorem bucketStart_of_lt {e : Nat} (he : e < 8) : bucketStart e = zAdd e := if_neg (Nat.ne_of_lt he)

/-- Every depth lies in a bucket. -/
theorem exists_bucket {z : Nat} (hz : z < 2 ^ 18) : ∃ e < 8, ∃ r < 2 ^ 11 * 2 ^ zShift e, z = zAdd e + r := by
  have below : ∀ n ≤ 8, z < bucketStart n → ∃ e < 8, ∃ r < 2 ^ 11 * 2 ^ zShift e, z = zAdd e + r := by
    intro n hn
    induction n with
    | zero => exact fun h => absurd h (Nat.not_lt_zero z)
    | succ n ih =>
      intro h
      rw [bucketStart_succ n hn] at h
      by_cases lower : z < bucketStart n
      · exact ih (by omega) lower
      · rw [bucketStart_of_lt hn] at lower
        exact ⟨n, hn, z - zAdd n, by omega, by omega⟩
  exact below 8 (Nat.le_refl 8) hz

/-- The depth of a mantissa lies in its bucket. -/
theorem mantissa_lt {e m : Nat} (he : e < 8) (hm : m < 2 ^ 11) : zAdd e + m * 2 ^ zShift e < bucketStart (e + 1) := by
  rw [bucketStart_succ e he]
  exact Nat.add_lt_add_left (Nat.mul_lt_mul_of_pos_right hm (Nat.two_pow_pos _)) _

/-- Mantissa `m` of bucket `e`, whatever the two bits below the code (49_depth_coverage_framebuffer.md R532). -/
theorem zDecompress_bucket {e m low : Nat} (he : e < 8) (hm : m < 2 ^ 11) (hlow : low < 4) :
    zDecompress (4 * (2 ^ 11 * e + m) + low) = zAdd e + m * 2 ^ zShift e := by
  have exponent : (4 * (2 ^ 11 * e + m) + low) / 2 ^ 13 % 8 = e := by omega
  have mantissa : (4 * (2 ^ 11 * e + m) + low) / 4 % 2 ^ 11 = m := by omega
  have depth := Nat.lt_of_lt_of_le (mantissa_lt he hm) (bucketStart_mono 8 (Nat.le_refl 8) e he)
  rw [zDecompress, exponent, mantissa, Nat.add_comm]
  exact Nat.mod_eq_of_lt depth

theorem zDecompress_code {e m : Nat} (he : e < 8) (hm : m < 2 ^ 11) :
    zDecompress (4 * (2 ^ 11 * e + m)) = zAdd e + m * 2 ^ zShift e :=
  zDecompress_bucket he hm (low := 0) (by decide)

/-- The depth `r` above the beginning of bucket `e` (49_depth_coverage_framebuffer.md R534). -/
theorem zCompress_bucket {e r : Nat} (he : e < 8) (hr : r < 2 ^ 11 * 2 ^ zShift e) :
    zCompress (zAdd e + r) = 4 * (2 ^ 11 * e + r / 2 ^ zShift e) := by
  rw [zCompress]
  interval_cases e <;> simp only [zAdd, zShift, Nat.reduceLT, if_true, if_false] at hr ⊢
  · rw [if_pos (by omega)]
    omega
  · iterate 1 rw [if_neg (by omega)]
    rw [if_pos (by omega)]
    omega
  · iterate 2 rw [if_neg (by omega)]
    rw [if_pos (by omega)]
    omega
  · iterate 3 rw [if_neg (by omega)]
    rw [if_pos (by omega)]
    omega
  · iterate 4 rw [if_neg (by omega)]
    rw [if_pos (by omega)]
    omega
  · iterate 5 rw [if_neg (by omega)]
    rw [if_pos (by omega)]
    omega
  · iterate 6 rw [if_neg (by omega)]
    rw [if_pos (by omega)]
    omega
  · iterate 7 rw [if_neg (by omega)]
    omega

/-- Every code is a mantissa of a bucket. -/
theorem exists_mantissa {c : Nat} (hc : c < 2 ^ 14) : ∃ e < 8, ∃ m < 2 ^ 11, c = 2 ^ 11 * e + m :=
  ⟨c / 2 ^ 11, by omega, c % 2 ^ 11, by omega, (Nat.div_add_mod c (2 ^ 11)).symm⟩

/-! ## The code -/

/-- Compression answers a code (49_depth_coverage_framebuffer.md R534). -/
theorem zCompress_code {z : Nat} (hz : z < 2 ^ 18) : ∃ c < 2 ^ 14, zCompress z = 4 * c := by
  obtain ⟨e, he, r, hr, rfl⟩ := exists_bucket hz
  have : r / 2 ^ zShift e < 2 ^ 11 := Nat.div_lt_of_lt_mul (Nat.mul_comm _ _ ▸ hr)
  exact ⟨2 ^ 11 * e + r / 2 ^ zShift e, by omega, zCompress_bucket he hr⟩

/-- The two bits below the code play no part in the depth. -/
theorem zDecompress_low {c low : Nat} (hc : c < 2 ^ 14) (hlow : low < 4) : zDecompress (4 * c + low) = zDecompress (4 * c) := by
  obtain ⟨e, he, m, hm, rfl⟩ := exists_mantissa hc
  exact (zDecompress_bucket he hm hlow).trans (zDecompress_code he hm).symm

/-- Decompression rises strictly (49_depth_coverage_framebuffer.md R535): within a bucket with the mantissa, and from one bucket to
a later one across the end of the first. -/
theorem zDecompress_lt {c d : Nat} (h : c < d) (hd : d < 2 ^ 14) : zDecompress (4 * c) < zDecompress (4 * d) := by
  obtain ⟨e, he, m, hm, rfl⟩ := exists_mantissa (Nat.lt_trans h hd)
  obtain ⟨e', he', m', hm', rfl⟩ := exists_mantissa hd
  rw [zDecompress_code he hm, zDecompress_code he' hm']
  rcases Nat.lt_or_ge e e' with earlier | later
  · have across := bucketStart_mono e' (Nat.le_of_lt he') e earlier
    rw [bucketStart_of_lt he'] at across
    exact Nat.lt_of_lt_of_le (mantissa_lt he hm) (Nat.le_trans across (Nat.le_add_right _ _))
  · obtain rfl : e = e' := by omega
    exact Nat.add_lt_add_left (Nat.mul_lt_mul_of_pos_right (by omega) (Nat.two_pow_pos _)) _

/-- Every code is a fixed point of the round trip (49_depth_coverage_framebuffer.md R535). -/
theorem zCompress_zDecompress {c : Nat} (hc : c < 2 ^ 14) : zCompress (zDecompress (4 * c)) = 4 * c := by
  obtain ⟨e, he, m, hm, rfl⟩ := exists_mantissa hc
  have inside : m * 2 ^ zShift e < 2 ^ 11 * 2 ^ zShift e := Nat.mul_lt_mul_of_pos_right hm (Nat.two_pow_pos _)
  rw [zDecompress_code he hm, zCompress_bucket he inside, Nat.mul_div_cancel _ (Nat.two_pow_pos _)]

/-- A round trip rounds the depth down within its bucket. -/
theorem zDecompress_zCompress {e r : Nat} (he : e < 8) (hr : r < 2 ^ 11 * 2 ^ zShift e) :
    zDecompress (zCompress (zAdd e + r)) = zAdd e + r / 2 ^ zShift e * 2 ^ zShift e := by
  have mantissa : r / 2 ^ zShift e < 2 ^ 11 := Nat.div_lt_of_lt_mul (Nat.mul_comm _ _ ▸ hr)
  rw [zCompress_bucket he hr, zDecompress_code he mantissa]

theorem zDecompress_zCompress_le {z : Nat} (hz : z < 2 ^ 18) : zDecompress (zCompress z) ≤ z := by
  obtain ⟨e, he, r, hr, rfl⟩ := exists_bucket hz
  rw [zDecompress_zCompress he hr]
  exact Nat.add_le_add_left (Nat.div_mul_le_self _ _) _

/-- A bucket begins at a multiple of its step. -/
theorem zAdd_mod : ∀ e < 8, zAdd e % 2 ^ zShift e = 0 := by decide

/-- The round trip loses exactly the bits the bucket drops (49_depth_coverage_framebuffer.md R535). -/
theorem zDecompress_zCompress_eq_iff {z : Nat} (hz : z < 2 ^ 18) :
    zDecompress (zCompress z) = z ↔ z % 2 ^ zShift (zCompress z / 2 ^ 13) = 0 := by
  obtain ⟨e, he, r, hr, rfl⟩ := exists_bucket hz
  have mantissa : r / 2 ^ zShift e < 2 ^ 11 := Nat.div_lt_of_lt_mul (Nat.mul_comm _ _ ▸ hr)
  have exponent : zCompress (zAdd e + r) / 2 ^ 13 = e := by
    rw [zCompress_bucket he hr]
    generalize r / 2 ^ zShift e = m at mantissa
    omega
  have parts := Nat.div_add_mod' r (2 ^ zShift e)
  rw [zDecompress_zCompress he hr, exponent, Nat.add_mod, zAdd_mod e he, Nat.zero_add, Nat.mod_mod]
  omega

/-- The tables of 49_depth_coverage_framebuffer.md R532. -/
theorem zShift_zAdd_table : ∀ e < 8, zShift e = [6, 5, 4, 3, 2, 1, 0, 0].getD e 0 ∧
    zAdd e = [0x00000, 0x20000, 0x30000, 0x38000, 0x3c000, 0x3e000, 0x3f000, 0x3f800].getD e 0 := by decide

/-- Settles O50: by the buckets; the values of the table are computed. -/
theorem depthCode : Obligations.DepthCode := by
  refine ⟨fun zh small => ?table, fun c d => zDecompress_lt, fun c => zCompress_zDecompress, fun z hz => ?trip, by decide⟩
  case table =>
    have bucket : zh / 2 ^ 13 < 8 := by omega
    obtain ⟨shift, add⟩ := zShift_zAdd_table _ bucket
    rw [zDecompress, Nat.mod_eq_of_lt bucket, shift, add]
  case trip =>
    obtain ⟨c, hc, code⟩ := zCompress_code hz
    refine ⟨?_, zDecompress_zCompress_le hz, zDecompress_zCompress_eq_iff hz⟩
    rw [code, zCompress_zDecompress hc]

/-! ## A depth in memory -/

theorem index32_lt {a : Int} {n : Nat} (h : a % 2 ^ 32 < (n : Int)) : index32 a < n := by
  simp only [index32, zext]
  omega

/-- The halfword of a depth write: the code, and the upper two of the four bits of the delta-Z below it. -/
theorem zStoreHalf_toNat {sz dz : Nat} (hz : sz < 2 ^ 18) (hd : dz < 16) :
    (zStoreHalf sz dz).toNat = zCompress sz + dz / 4 := by
  obtain ⟨c, hc, code⟩ := zCompress_code hz
  have depth : (zext 18 (sz : Int)).toNat = sz := by
    rw [zext]
    omega
  rw [zStoreHalf, depth, code, BitVec.toNat_ofNat]
  exact Nat.mod_eq_of_lt (by omega)

/-- Settles O52: the code and the delta-Z stand side by side in the halfword and its hidden bits. -/
theorem depthReadBack : Obligations.DepthReadBack := by
  intro cfg ram zi sz dz ok inMem hz hd r
  obtain ⟨c, hc, code⟩ := zCompress_code hz
  have half : r.1.toNat = 4 * c + dz / 4 := by
    rw [← code, ← zStoreHalf_toNat hz hd]
    exact congrArg (fun p => p.1.toNat) (pairRd16_pairWr16 ok zi _ _ (index32_lt inMem))
  have hidden : r.2.toNat = dz % 4 :=
    (congrArg (fun p => p.2.toNat) (pairRd16_pairWr16 ok zi _ _ (index32_lt inMem))).trans (BitVec.toNat_ofNat dz 2)
  have depth : zDecompress r.1.toNat = zDecompress (zCompress sz) := by
    rw [half, code]
    exact zDecompress_low hc (by omega)
  exact ⟨by omega, by omega, depth, depth ▸ zDecompress_zCompress_le hz⟩

end Sys2Proof.Machine
end

section
/-! The depth compare (49_depth_coverage_framebuffer.md R543, R545): what each Z mode passes and does to the coverage. -/

namespace Sys2Proof.Machine

/-- The halfword of the depth image that a compare reads, with its hidden bits (49_depth_coverage_framebuffer.md R531). -/
def depthHalf (s : State) (ram : Ram) (i : DepthIn) : Half × BitVec 2 := pairRd16 s.cfg ram i.zi

/-- The depth the compare finds in memory. -/
def memoryDepth (s : State) (ram : Ram) (i : DepthIn) : Int := (zDecompress (depthHalf s ram i).1.toNat : Int)

/-- The stored delta-Z, none if it forces coplanar. -/
def memoryDz (s : State) (ram : Ram) (i : DepthIn) : Option Nat :=
  storedDz ((depthHalf s ram i).1.toNat / 2 ^ 13) ((depthHalf s ram i).1.toNat % 4 * 4 + (depthHalf s ram i).2.toNat)

/-- The delta-Z of the comparison: the highest bit of the pixel's and the stored one. -/
def comparedDz (s : State) (ram : Ram) (i : DepthIn) : Nat := highBit (i.dzpix ||| (memoryDz s ram i).getD 0xffff)

/-- The comparisons of `ZCompare`. -/
def depthTest (s : State) (ram : Ram) (i : DepthIn) : DepthTest :=
  { overflow := bitAt (i.memcvg + i.cvg) 3,
    farther := (memoryDz s ram i).isNone || decide (zext 18 i.sz + (comparedDz s ram i * 8 : Nat) ≥ memoryDepth s ram i),
    infront := decide (zext 18 i.sz < memoryDepth s ram i),
    nearer := (memoryDz s ram i).isNone || decide (zext 18 i.sz - (comparedDz s ram i * 8 : Nat) ≤ memoryDepth s ram i),
    max := decide (memoryDepth s ram i = 0x3ffff) }

theorem zCompare_off {s : State} (off : s.mode.zCompareEn = false) (ram : Ram) (i : DepthIn) :
    (zCompare s ram i).pass = true ∧ (zCompare s ram i).cvg = i.cvg := by
  simp [zCompare, off]

/-- With the compare on, the Z mode decides from the comparisons. -/
theorem zCompare_on {s : State} (on : s.mode.zCompareEn = true) (ram : Ram) (i : DepthIn) :
    ((zCompare s ram i).pass, (zCompare s ram i).cvg) =
      zModeResult s (depthTest s ram i) (memoryDepth s ram i) (zext 18 i.sz) (comparedDz s ram i) i.cvg := by
  rw [zCompare, if_pos on]
  rfl

section
variable {s : State} {ram : Ram} {i : DepthIn} (on : s.mode.zCompareEn = true)
include on

theorem zCompare_opaque (mode : s.mode.zMode = .opaqueSurface) : (zCompare s ram i).pass = passOpaque (depthTest s ram i) := by
  have answer := congrArg Prod.fst (zCompare_on on ram i)
  simpa only [zModeResult, mode] using answer

theorem zCompare_transparent (mode : s.mode.zMode = .transparent) :
    (zCompare s ram i).pass = ((depthTest s ram i).infront || (depthTest s ram i).max) := by
  have answer := congrArg Prod.fst (zCompare_on on ram i)
  simpa only [zModeResult, mode] using answer

theorem zCompare_decal (mode : s.mode.zMode = .decal) :
    (zCompare s ram i).pass = ((depthTest s ram i).farther && (depthTest s ram i).nearer && !(depthTest s ram i).max) := by
  have answer := congrArg Prod.fst (zCompare_on on ram i)
  simpa only [zModeResult, mode] using answer

theorem zCompare_cvg (mode : s.mode.zMode ≠ .interpenetrating) : (zCompare s ram i).cvg = i.cvg := by
  refine (congrArg Prod.snd (zCompare_on on ram i)).trans ?_
  rw [zModeResult]
  split
  case h_2 inter => exact absurd inter mode
  all_goals rfl

end

/-- Settles O53: each mode's answer is its own combination of the comparisons. -/
theorem depthModes : Obligations.DepthModes := by
  intro s ram i zh raw oz sz d
  refine ⟨(zCompare_off · ram i), fun on mode cleared => ?front, fun on mode => ?transparent, fun on mode pass => ?decal,
    fun mode => ?coverage⟩
  case front =>
    have max : (depthTest s ram i).max = true := decide_eq_true cleared
    rw [zCompare_opaque on mode, passOpaque, max, Bool.true_or]
  case transparent =>
    rw [zCompare_transparent on mode, Bool.or_eq_true]
    exact or_congr decide_eq_true_iff decide_eq_true_iff
  case decal =>
    rw [zCompare_decal on mode, Bool.and_eq_true, Bool.and_eq_true, Bool.not_eq_true'] at pass
    obtain ⟨⟨farther, nearer⟩, max⟩ := pass
    refine ⟨of_decide_eq_false max, fun stored hs => ?_⟩
    have dz : memoryDz s ram i = some stored := hs
    have wide : comparedDz s ram i = highBit (i.dzpix ||| stored) := by rw [comparedDz, dz, Option.getD_some]
    simp only [depthTest, dz, wide, Option.isNone_some, Bool.false_or, decide_eq_true_eq] at farther nearer
    exact ⟨nearer, farther⟩
  case coverage =>
    cases on : s.mode.zCompareEn
    · exact (zCompare_off on ram i).2
    · exact zCompare_cvg on mode

end Sys2Proof.Machine
end

section
/-! Coverage (49_depth_coverage_framebuffer.md R553 to R558, R575): the samples of a mask byte, the coverage-centre correction, and
the coverage written with a pixel. -/

namespace Sys2Proof.Machine

/-! ## Masks -/

/-- The column of bit `b` of a mask byte (49_depth_coverage_framebuffer.md R553). -/
def sampleColumn (b : Nat) : Nat := [3, 2, 1, 0, 3, 2, 1, 0].getD b 0

/-- The sub-scanline of bit `b` of a mask byte (49_depth_coverage_framebuffer.md R553). -/
def sampleLine (b : Nat) : Nat := [3, 2, 3, 2, 1, 0, 1, 0].getD b 0

/-- Which bits of a mask byte a sub-scanline owns. -/
theorem placeMask_fmask : ∀ i < 4, fmask i = 0xa >>> (i % 2) ∧ maskShift i = [4, 4, 0, 0].getD i 0 ∧
    ∀ b < 8, ((placeMask (fmask i) i).getLsbD b = true ↔ sampleLine b = i) ∧
      b = maskShift (sampleLine b) + 3 - sampleColumn b := by decide

/-- The partial masks of an edge, whose position in eighths of a pixel rounds to `n` samples. -/
theorem partialMasks : ∀ n < 5, ∀ i < 4, ∀ k < 4,
    (((0xf#4 >>> n) &&& fmask i).getLsbD (3 - k) = true ↔ k % 2 = i % 2 ∧ n ≤ k) ∧
      (((0xf0#8 >>> n).setWidth 4 &&& fmask i).getLsbD (3 - k) = true ↔ k % 2 = i % 2 ∧ k < n) := by decide

theorem coverageOf_eq_sum : ∀ m : Byte, coverageOf m = ((List.range 8).map fun b => (m.getLsbD b).toNat).sum := by decide

/-- The first sample of a mask that is not empty, in the order of sub-scanlines and, within one, of columns. -/
theorem firstSample : ∀ m : Byte, m ≠ 0 →
    ∃ b < 8, m.getLsbD b = true ∧ sampleLine b = offYOf m ∧ sampleColumn b = offXOf m ∧
      ∀ b' < 8, m.getLsbD b' = true →
        sampleLine b < sampleLine b' ∨ (sampleLine b = sampleLine b' ∧ sampleColumn b ≤ sampleColumn b') := by
  decide

/-- Settles O54: finite tables, over the bits of a mask byte. -/
theorem coverageMasks : Obligations.CoverageMasks := by
  refine ⟨placeMask_fmask, fun x i k hi hk => ?edges, fun m => ⟨?count, rfl, ?empty, ?first⟩, by decide⟩
  case edges => exact partialMasks _ (by omega) i hi k hk
  case count => exact congrArg Nat.cast (coverageOf_eq_sum m)
  case empty =>
    rintro rfl
    exact ⟨rfl, rfl⟩
  case first =>
    intro h
    obtain ⟨b, hb, rest⟩ := firstSample m h
    exact ⟨b, hb, rest⟩

/-! ## The coverage-centre correction -/

theorem clamp9_range (v : Int) : 0 ≤ clamp9 v ∧ clamp9 v ≤ 255 := by
  rw [clamp9_eq]
  omega

theorem clamp9_of_byte {v : Int} (h0 : 0 ≤ v) (h1 : v < 256) : clamp9 v = v := by
  obtain ⟨low, high, congr⟩ := ext9_range v
  rw [clamp9_eq]
  omega

/-- The 18-bit clamp of a corrected depth (49_depth_coverage_framebuffer.md R557). -/
def clampDepth (sz : Int) : Int := if bitsAt sz 17 2 = 2 then 0x3ffff else if bitsAt sz 17 2 = 3 then 0 else zext 18 sz

theorem correctDepth_eq (e : Centre) (c : Cover) (z : Int) : correctDepth e c z =
    clampDepth (if c.cvg = 8 then asr (bitsAt z 10 22) 3
      else asr (bitsAt z 10 22 * 4 + (c.offx : Int) * e.cdz + (c.offy : Int) * e.dzdy) 5) := rfl

theorem clampDepth_range (sz : Int) : 0 ≤ clampDepth sz ∧ clampDepth sz < 2 ^ 18 := by
  rw [clampDepth]
  by_cases above : bitsAt sz 17 2 = 2
  · rw [if_pos above]
    decide
  by_cases below : bitsAt sz 17 2 = 3
  · rw [if_neg above, if_pos below]
    decide
  · rw [if_neg above, if_neg below]
    exact ⟨zext_nonneg 18 sz, zext_lt 18 sz⟩

theorem clampDepth_of_lt {sz : Int} (h0 : 0 ≤ sz) (h1 : sz < 2 ^ 18) : clampDepth sz = sz := by
  rw [clampDepth, bitsAt, zext, if_neg (by omega), if_neg (by omega)]
  omega

/-- Settles O55: the clamps confine what they are given, and leave the upper bits of a colour or depth in range. -/
theorem correctionRange : Obligations.CorrectionRange := by
  refine ⟨fun c v cd dy => clamp9_range _, fun e c z => ?depth, fun c v cd dy full h0 h1 => ?corner,
    fun e c z full h0 h1 => ?whole⟩
  case depth =>
    rw [correctDepth_eq]
    exact clampDepth_range _
  case corner =>
    rw [correctColor, if_pos full, asr, clamp9_of_byte (by omega) (by omega)]
    rfl
  case whole =>
    have upper : asr (bitsAt z 10 22) 3 = z / 2 ^ 13 := by
      rw [asr, bitsAt]
      omega
    rw [correctDepth_eq, if_pos full, upper, clampDepth_of_lt (by omega) (by omega)]

/-! ## The coverage of a pixel written -/

/-- The final coverage in clamp mode (49_depth_coverage_framebuffer.md R575). -/
theorem finalCvg_clamp {s : State} (mode : s.mode.cvgDest = .clamp) (blend : Bool) (cvg memcvg : Int) :
    finalCvg s blend cvg memcvg =
      if bitAt (if blend then cvg + memcvg else cvg - 1) 3 then 7
      else BitVec.ofInt 3 (if blend then cvg + memcvg else cvg - 1) := by
  simp only [finalCvg, mode]

/-- The clamp takes bit 3 as the overflow: of -1 too, which a pixel without coverage gives. -/
theorem clampCvg_toNat {v : Int} (h0 : -1 ≤ v) (h1 : v ≤ 15) :
    ((if bitAt v 3 then 7 else BitVec.ofInt 3 v : BitVec 3).toNat : Int) = if v = -1 then 7 else min v 7 := by
  have bit : bitAt v 3 = true ↔ v / 2 ^ 3 % 2 = 1 := beq_iff_eq
  by_cases carry : bitAt v 3 = true
  · rw [if_pos carry]
    rw [bit] at carry
    by_cases none : v = -1
    · rw [if_pos none]
      rfl
    · rw [if_neg none, Int.min_eq_right (by omega)]
      rfl
  · rw [if_neg carry]
    rw [bit] at carry
    rw [if_neg (by omega), BitVec.toNat_ofInt]
    omega

/-- Settles O59: in clamp mode by the range of the sum, in the other modes by its low three bits. -/
theorem finalCoverage : Obligations.FinalCoverage := by
  intro s blend cvg memcvg c0 c1 m0 m1 f
  refine ⟨fun mode plain => ?plain, fun mode blends => ?blended, fun mode => ?wrap, fun mode => ?zap, fun mode => ?save⟩
  case plain =>
    simp only [f, finalCvg_clamp mode, plain, Bool.false_eq_true, if_false]
    rw [clampCvg_toNat (by omega) (by omega)]
    by_cases none : cvg = 0
    · rw [if_pos none, if_pos (by omega)]
    · rw [if_neg none, if_neg (by omega)]
      omega
  case blended =>
    simp only [f, finalCvg_clamp mode, blends, if_true]
    rw [clampCvg_toNat (by omega) (by omega), if_neg (by omega)]
  case wrap =>
    simp only [f, finalCvg, mode, BitVec.toNat_ofInt]
    omega
  case zap =>
    simp only [f, finalCvg, mode]
    rfl
  case save =>
    simp only [f, finalCvg, mode, BitVec.toNat_ofInt]
    omega

end Sys2Proof.Machine
end

section
/-! Framebuffer reads and writes (49_depth_coverage_framebuffer.md R560 to R566): what a written pixel reads back as, by the size
and the format of the colour image. -/

namespace Sys2Proof.Machine

/-! ## Memory read back -/

section
variable {cfg : Config} {ram : Ram} {i : Int} (h : ramOk cfg ram = true)
include h

theorem rd8_pairWr8 (hi : index32 i < memSize cfg) (v : Byte) (x : BitVec 2) : rd8 cfg (pairWr8 cfg ram i v x) i = v := by
  rw [rd8_in hi, memByte_pairWr8 h, if_pos ⟨hi, rfl⟩]

theorem rd32_pairWr32 (hi : index32 i < memSize cfg / 4) (v : Word) (x y : BitVec 2) :
    rd32 cfg (pairWr32 cfg ram i v x y) i = v := by
  obtain ⟨b0, b1, b2, b3⟩ := bytes_putWord h hi v
  rw [rd32_in hi, memByte_pairWr32 hi, memByte_pairWr32 hi, memByte_pairWr32 hi, memByte_pairWr32 hi, b0, b1, b2, b3]
  exact bytes_join v

end

/-! ## What a pixel is stored as -/

/-- A 16-bit RGBA pixel: five bits of each channel, and the upper bit of the coverage (49_depth_coverage_framebuffer.md R566). -/
def rgbaHalf (r g b : Byte) (fc : BitVec 3) : Half :=
  r.extractLsb' 3 5 ++ g.extractLsb' 3 5 ++ b.extractLsb' 3 5 ++ fc.extractLsb' 2 1

/-- A 16-bit pixel of another format: red, and the coverage. -/
def redHalf (r : Byte) (fc : BitVec 3) : Half := r ++ fc ++ 0#5

/-- A 32-bit pixel: the three channels, and the coverage. -/
def rgbaWord (r g b : Byte) (fc : BitVec 3) : Word := r ++ g ++ b ++ fc ++ 0#5

theorem rgbaHalf_toNat (r g b : Byte) (fc : BitVec 3) : (rgbaHalf r g b fc).toNat =
    r.toNat / 8 * 2 ^ 11 + g.toNat / 8 * 2 ^ 6 + b.toNat / 8 * 2 + fc.toNat / 4 := by
  simp only [rgbaHalf, toNat_append_add, BitVec.extractLsb'_toNat, Nat.shiftRight_eq_div_pow]
  omega

theorem redHalf_toNat (r : Byte) (fc : BitVec 3) : (redHalf r fc).toNat = r.toNat * 2 ^ 8 + fc.toNat * 2 ^ 5 := by
  simp only [redHalf, toNat_append_add, BitVec.toNat_ofNat]
  omega

theorem rgbaWord_toNat (r g b : Byte) (fc : BitVec 3) : (rgbaWord r g b fc).toNat =
    r.toNat * 2 ^ 24 + g.toNat * 2 ^ 16 + b.toNat * 2 ^ 8 + fc.toNat * 2 ^ 5 := by
  simp only [rgbaWord, toNat_append_add, BitVec.toNat_ofNat]
  omega

/-! ## Writes and reads by the size of the image -/

/-- A colour of three bytes as the blender gives it. -/
def byteColor (r g b : Byte) : Rgb Int := { r := (r.toNat : Int), g := (g.toNat : Int), b := (b.toNat : Int) }

section
variable {s : State} (ram : Ram) (p : Int) (r g b : Byte) (fc : BitVec 3)

theorem fbWrite_byte (size : s.fbSize = 1) : fbWrite s ram p (byteColor r g b) fc =
    pairWr8 s.cfg ram (fbByte s p) r (hidOf (r.getLsbD 0)) := by
  simp only [fbWrite, size, byteColor, BitVec.ofInt_natCast, BitVec.ofNat_toNat, BitVec.setWidth_eq]
  rfl

theorem fbWrite_rgbaHalf (size : s.fbSize = 2) (format : s.fbFormat = 0) : fbWrite s ram p (byteColor r g b) fc =
    pairWr16 s.cfg ram (fbHalf s p) (rgbaHalf r g b fc) (fc.extractLsb' 0 2) := by
  simp only [fbWrite, size, format, byteColor, BitVec.ofInt_natCast, BitVec.ofNat_toNat, BitVec.setWidth_eq]
  rfl

theorem fbWrite_redHalf (size : s.fbSize = 2) (format : s.fbFormat ≠ 0) : fbWrite s ram p (byteColor r g b) fc =
    pairWr16 s.cfg ram (fbHalf s p) (redHalf r fc) 0 := by
  have other : s.fbFormat.toNat ≠ 0 := fun zero => format (BitVec.eq_of_toNat_eq zero)
  simp only [fbWrite, size, other, if_false, byteColor, BitVec.ofInt_natCast, BitVec.ofNat_toNat, BitVec.setWidth_eq]
  rfl

theorem fbWrite_word (size : s.fbSize = 3) : fbWrite s ram p (byteColor r g b) fc =
    pairWr32 s.cfg ram (fbWord s p) (rgbaWord r g b fc) (hidOf (g.getLsbD 0)) 0 := by
  simp only [fbWrite, size, byteColor, BitVec.ofInt_natCast, BitVec.ofNat_toNat, BitVec.setWidth_eq]
  rfl

theorem fbRead_byte (size : s.fbSize = 1) {v : Byte} (h : rd8 s.cfg ram (fbByte s p) = v) : fbRead s ram p =
    { color := { r := unsigned v, g := unsigned v, b := unsigned v, a := 0xe0 }, memcvg := 7 } := by
  simp only [fbRead, size, h]
  rfl

theorem fbRead_rgbaHalf (size : s.fbSize = 2) (format : s.fbFormat = 0) {v : Half} {x : BitVec 2}
    (h : pairRd16 s.cfg ram (fbHalf s p) = (v, x)) : fbRead s ram p =
    fbPixel s (bitsAt (unsigned v) 11 5 * 8) (bitsAt (unsigned v) 6 5 * 8) (bitsAt (unsigned v) 1 5 * 8)
      (zext 1 (unsigned v) * 4 + unsigned x) := by
  simp only [fbRead, size, format, h]
  rfl

theorem fbRead_redHalf (size : s.fbSize = 2) (format : s.fbFormat ≠ 0) {v : Half} {x : BitVec 2}
    (h : pairRd16 s.cfg ram (fbHalf s p) = (v, x)) : fbRead s ram p =
    fbPixel s (asr (unsigned v) 8) (asr (unsigned v) 8) (asr (unsigned v) 8) (zext 1 (unsigned v) * 4 + unsigned x) := by
  have other : s.fbFormat.toNat ≠ 0 := fun zero => format (BitVec.eq_of_toNat_eq zero)
  simp only [fbRead, size, other, if_false, h]
  rfl

theorem fbRead_word (size : s.fbSize = 3) {v : Word} (h : rd32 s.cfg ram (fbWord s p) = v) : fbRead s ram p =
    fbPixel s (bitsAt (unsigned v) 24 8) (bitsAt (unsigned v) 16 8) (bitsAt (unsigned v) 8 8) (bitsAt (unsigned v) 5 3) := by
  simp only [fbRead, size, h]
  rfl

end

/-- With `image_read_en` the coverage of a pixel is what memory holds (49_depth_coverage_framebuffer.md R562). -/
theorem fbPixel_read {s : State} (read : s.mode.imageReadEn = true) (r g b cvg : Int) :
    fbPixel s r g b cvg = { color := { r := r, g := g, b := b, a := cvg * 32 }, memcvg := cvg } := by
  simp only [fbPixel, read, if_true]

/-! ## Channels -/

theorem channels_rgbaHalf (r g b : Byte) (fc : BitVec 3) :
    bitsAt (unsigned (rgbaHalf r g b fc)) 11 5 * 8 = (r.toNat / 8 * 8 : Nat) ∧
      bitsAt (unsigned (rgbaHalf r g b fc)) 6 5 * 8 = (g.toNat / 8 * 8 : Nat) ∧
      bitsAt (unsigned (rgbaHalf r g b fc)) 1 5 * 8 = (b.toNat / 8 * 8 : Nat) ∧
      zext 1 (unsigned (rgbaHalf r g b fc)) * 4 + unsigned (fc.extractLsb' 0 2) = fc.toNat := by
  simp only [bitsAt, zext, unsigned, rgbaHalf_toNat, BitVec.extractLsb'_toNat, Nat.shiftRight_zero]
  refine ⟨?_, ?_, ?_, ?_⟩ <;> omega

theorem channel_redHalf (r : Byte) (fc : BitVec 3) : asr (unsigned (redHalf r fc)) 8 = r.toNat := by
  rw [asr_unsigned, redHalf_toNat]
  omega

theorem channels_rgbaWord (r g b : Byte) (fc : BitVec 3) :
    bitsAt (unsigned (rgbaWord r g b fc)) 24 8 = r.toNat ∧ bitsAt (unsigned (rgbaWord r g b fc)) 16 8 = g.toNat ∧
      bitsAt (unsigned (rgbaWord r g b fc)) 8 8 = b.toNat ∧ bitsAt (unsigned (rgbaWord r g b fc)) 5 3 = fc.toNat := by
  simp only [bitsAt, unsigned, rgbaWord_toNat]
  refine ⟨?_, ?_, ?_, ?_⟩ <;> omega

/-! ## A pixel read back -/

section
variable {s : State} {ram : Ram} (ok : ramOk s.cfg ram = true) {p : Int} (r g b : Byte) (fc : BitVec 3)
include ok

theorem fbRead_fbWrite_byte (size : s.fbSize = 1) (inMem : index32 (fbByte s p) < memSize s.cfg) :
    fbRead s (fbWrite s ram p (byteColor r g b) fc) p =
      { color := { r := unsigned r, g := unsigned r, b := unsigned r, a := 0xe0 }, memcvg := 7 } :=
  fbRead_byte _ p size (by rw [fbWrite_byte ram p r g b fc size, rd8_pairWr8 ok inMem])

variable (read : s.mode.imageReadEn = true)
include read

theorem fbRead_fbWrite_rgbaHalf (size : s.fbSize = 2) (format : s.fbFormat = 0)
    (inMem : index32 (fbHalf s p) < memSize s.cfg / 2) :
    fbRead s (fbWrite s ram p (byteColor r g b) fc) p =
      { color := { r := (r.toNat / 8 * 8 : Nat), g := (g.toNat / 8 * 8 : Nat), b := (b.toNat / 8 * 8 : Nat), a := fc.toNat * 32 },
        memcvg := fc.toNat } := by
  obtain ⟨red, green, blue, cvg⟩ := channels_rgbaHalf r g b fc
  have stored : pairRd16 s.cfg (fbWrite s ram p (byteColor r g b) fc) (fbHalf s p) =
      (rgbaHalf r g b fc, fc.extractLsb' 0 2) := by
    rw [fbWrite_rgbaHalf ram p r g b fc size format, pairRd16_pairWr16 ok _ _ _ inMem]
  rw [fbRead_rgbaHalf _ p size format stored, fbPixel_read read, red, green, blue, cvg]

theorem fbRead_fbWrite_redHalf (size : s.fbSize = 2) (format : s.fbFormat ≠ 0)
    (inMem : index32 (fbHalf s p) < memSize s.cfg / 2) :
    (fbRead s (fbWrite s ram p (byteColor r g b) fc) p).color.r = r.toNat ∧
      (fbRead s (fbWrite s ram p (byteColor r g b) fc) p).color.g = r.toNat ∧
      (fbRead s (fbWrite s ram p (byteColor r g b) fc) p).color.b = r.toNat := by
  have stored : pairRd16 s.cfg (fbWrite s ram p (byteColor r g b) fc) (fbHalf s p) = (redHalf r fc, 0) := by
    rw [fbWrite_redHalf ram p r g b fc size format, pairRd16_pairWr16 ok _ _ _ inMem]
  rw [fbRead_redHalf _ p size format stored, fbPixel_read read, channel_redHalf]
  exact ⟨rfl, rfl, rfl⟩

theorem fbRead_fbWrite_word (size : s.fbSize = 3) (inMem : index32 (fbWord s p) < memSize s.cfg / 4) :
    fbRead s (fbWrite s ram p (byteColor r g b) fc) p =
      { color := { r := r.toNat, g := g.toNat, b := b.toNat, a := fc.toNat * 32 }, memcvg := fc.toNat } := by
  obtain ⟨red, green, blue, cvg⟩ := channels_rgbaWord r g b fc
  have stored : rd32 s.cfg (fbWrite s ram p (byteColor r g b) fc) (fbWord s p) = rgbaWord r g b fc := by
    rw [fbWrite_word ram p r g b fc size, rd32_pairWr32 ok inMem]
  rw [fbRead_word _ p size stored, fbPixel_read read, red, green, blue, cvg]

end

/-- Settles O60: each size reads back the unit it wrote, and the channels are fields of the unit. -/
theorem pixelReadBack : Obligations.PixelReadBack := by
  intro s ram p r g b fc ok read c q
  refine ⟨fun size format inMem => ?rgba, fun size format inMem => ?red, fun size inMem => ?word, fun size inMem => ?byte⟩
  case rgba =>
    have back : q = _ := fbRead_fbWrite_rgbaHalf ok r g b fc read size format (index32_lt inMem)
    rw [back]
    exact ⟨rfl, rfl, rfl, rfl, (Int.natCast_mul ..).symm⟩
  case red => exact fbRead_fbWrite_redHalf ok r g b fc read size format (index32_lt inMem)
  case word =>
    have back : q = _ := fbRead_fbWrite_word ok r g b fc read size (index32_lt inMem)
    rw [back]
    exact ⟨rfl, rfl, rfl, rfl⟩
  case byte =>
    have back : q = _ := fbRead_fbWrite_byte ok r g b fc size (index32_lt inMem)
    rw [back]
    exact ⟨rfl, rfl, rfl, rfl⟩

end Sys2Proof.Machine
end

section
/-! The pixels of the four pipelines (49_depth_coverage_framebuffer.md R580 to R594, 48_combiner_blender.md R500, R507, R520): what
a dropped pixel leaves, the noise it draws, and what fill and copy mode write and leave. -/

namespace Sys2Proof.Machine

/-! ## A pixel of the 1-cycle and 2-cycle pipelines -/

/-- A pixel that is drawn has passed the depth compare, the alpha compare and the coverage test. -/
theorem renderPixel_ram_of_dropped {s : State} {two : Bool} {e : PrimEnv} {pipe : Pipe} {px : PixelAt}
    {w : PixelWork} (hw : w = pixelWork s two e px pipe.seed) {d : DepthOut}
    (hd : d = zCompare s pipe.ram (depthIn s e px w (fbRead s pipe.ram (pixelIndex s px.x px.y))))
    (dropped : d.pass = false ∨ alphaPasses s (rand s w.dither.seed).value w.comb.pixel.a = false ∨
      coverDraws s d.cvg w.cover.cvbit = false) : (renderPixel s two e pipe px).ram = pipe.ram := by
  subst hw hd
  simp only [renderPixel]
  rw [if_neg]
  rcases dropped with h | h | h <;> simp [h]

/-- The seed after the dither step of a pixel: one draw for the combiner, and one for the colour dither if it takes it from the
noise (48_combiner_blender.md R505, R507). -/
theorem pixelWork_seed (s : State) (two : Bool) (e : PrimEnv) (px : PixelAt) (seed : BitVec 32) :
    (pixelWork s two e px seed).dither.seed =
      if s.mode.rgbDitherSel = 2 then (rand s (rand s seed).seed).seed else (rand s seed).seed := by
  have noisy : s.mode.rgbDitherSel.toNat = 2 ↔ s.mode.rgbDitherSel = 2 := BitVec.toNat_inj (y := 2#2)
  simp only [pixelWork, ditherOf, noisy]

theorem alphaPasses_of_lt {s : State} (on : s.mode.alphaCompareEn = true) (plain : s.mode.ditherAlphaEn = false) {alpha : Int}
    (below : alpha < (s.blendColor.a.toNat : Int)) (draw : Int) : alphaPasses s draw alpha = false := by
  simp only [alphaPasses, on, plain, if_true, Bool.false_eq_true, if_false]
  exact decide_eq_false (not_le.2 below)

/-- A draw of the default generator (48_combiner_blender.md R507). -/
theorem rand_default {s : State} (h : s.cfg.noise = .default) (seed : BitVec 32) :
    (rand s seed).seed = seed * 0x343fd + 0x269ec3 ∧
      (rand s seed).value = (((seed * 0x343fd + 0x269ec3).extractLsb 30 16).toNat : Int) := by
  simp only [rand, noiseNext, noiseDraw, h]
  exact ⟨rfl, rfl⟩

/-- Settles O46: each test alone keeps the pixel from being drawn; the seed is that of the dither step, and of the threshold draw
after it. -/
theorem droppedPixel : Obligations.DroppedPixel := by
  refine ⟨fun s two e pipe px => ?_, fun s seed h => rand_default h seed⟩
  intro w fb d r s1 s2
  refine ⟨fun far => ?depth, fun on plain below => ?alpha, fun aa none => ?empty, fun aa corner => ?corner, ?seed⟩
  case depth => exact renderPixel_ram_of_dropped rfl rfl (.inl far)
  case alpha => exact renderPixel_ram_of_dropped rfl rfl (.inr (.inl (alphaPasses_of_lt on plain below _)))
  case empty =>
    refine renderPixel_ram_of_dropped rfl rfl (.inr (.inr ?_))
    rw [coverDraws, if_pos aa]
    exact decide_eq_false (not_not.2 none)
  case corner =>
    refine renderPixel_ram_of_dropped rfl rfl (.inr (.inr ?_))
    rw [coverDraws, aa]
    exact corner
  case seed =>
    have dithered : w.dither.seed = s2 := pixelWork_seed s two e px pipe.seed
    have seed : r.seed = if d.pass && comparesNoise s then (rand s w.dither.seed).seed else w.dither.seed := rfl
    rw [seed, dithered]
    simp only [comparesNoise, Bool.and_eq_true]

/-! ## Fill mode -/

/-- The pipeline of fill mode writes main memory only (49_depth_coverage_framebuffer.md R580). -/
theorem renderBlock_fill {s : State} {i : Instr} (fill : s.mode.cycleType = .fill) (size : s.fbSize.toNat ≠ 0) :
    renderBlock s (blockOf s.mode.cycleType i) = some { pipeStart s with ram := fillPixels s s.ram (pixelsOf s i) } := by
  simp only [pixelsOf, primOf, renderBlock, renderSpans, afterWalk_mode, fill, renderFill, afterWalk_fbSize, size, if_false]
  rfl

section
variable (s : State) (ram : Ram) (p : Int)

/-- The byte of `fill_color` that a place in memory selects (49_depth_coverage_framebuffer.md R580). -/
theorem fbFill_byte (size : s.fbSize = 1) : fbFill s ram p =
    pairWr8 s.cfg ram (fbByte s p) ((s.fillColor >>> (8 * (3 - (fbByte s p % 4).toNat))).setWidth 8)
      (hidOf (((s.fillColor >>> (8 * (3 - (fbByte s p % 4).toNat))).setWidth 8).getLsbD 0)) := by
  have place : s.fillColor.extractLsb' ((3 - (zext 2 (fbByte s p)).toNat) * 8) 8 =
      (s.fillColor >>> (8 * (3 - (fbByte s p % 4).toNat))).setWidth 8 := by
    refine BitVec.eq_of_toNat_eq ?_
    rw [BitVec.extractLsb'_toNat, BitVec.toNat_setWidth, BitVec.toNat_ushiftRight, Nat.mul_comm]
    rfl
  simp only [fbFill, size, place]
  rfl

theorem fbFill_word (size : s.fbSize = 3) : fbFill s ram p =
    pairWr32 s.cfg ram (fbWord s p) s.fillColor (hidOf (s.fillColor.getLsbD 16)) (hidOf (s.fillColor.getLsbD 0)) := by
  simp only [fbFill, size]
  rfl

end

/-! ## Copy mode -/

/-- `pipe` differs from `pipe0` in main memory only, and in the seed only if a copy group draws its threshold
(49_depth_coverage_framebuffer.md R585, R587). -/
structure CopyKept (s : State) (pipe0 pipe : Pipe) : Prop where
  cvgbuf : pipe.cvgbuf = pipe0.cvgbuf
  pixel : pipe.pixel = pipe0.pixel
  seed : copyDraws s = false → pipe.seed = pipe0.seed

theorem CopyKept.refl (s : State) (pipe : Pipe) : CopyKept s pipe pipe := ⟨rfl, rfl, fun _ => rfl⟩

theorem CopyKept.copyStep {s : State} {pipe0 pipe : Pipe} (kept : CopyKept s pipe0 pipe) (e : PrimEnv) (i : Int) (row : Span)
    (g : Nat) : CopyKept s pipe0 (copyStep s e i row pipe g) where
  cvgbuf := kept.cvgbuf
  pixel := kept.pixel
  seed quiet := by
    simpa only [Machine.copyStep, quiet, Bool.false_eq_true, if_false] using kept.seed quiet

theorem CopyKept.copyRow {s : State} {pipe0 pipe : Pipe} (kept : CopyKept s pipe0 pipe) (e : PrimEnv) (i : Int) :
    CopyKept s pipe0 (copyRow s e pipe i) :=
  foldl_keeps (CopyKept s pipe0) _ _ pipe kept fun _ g _ kept => kept.copyStep e i _ g

theorem copyKept_renderCopy {s : State} {e : PrimEnv} {ys ye : Int} {pipe pipe' : Pipe}
    (h : renderCopy s e ys ye pipe = some pipe') : CopyKept s pipe pipe' ∧ (s.fbSize.toNat = 3 → pipe' = pipe) := by
  unfold renderCopy at h
  split at h
  · cases h
  split at h
  · split at h
    · cases h
    · cases h
      exact ⟨.refl s _, fun _ => rfl⟩
  · cases h
    refine ⟨?_, fun size => absurd size ‹_›⟩
    exact foldl_keeps (CopyKept s pipe) _ _ pipe (.refl s pipe) fun _ i _ kept => kept.copyRow e i

/-- The pipeline of copy mode, on the state after the walk. -/
theorem renderBlock_copy {s : State} (copy : s.mode.cycleType = .copy) {ew : List Word} {pipe : Pipe}
    (h : renderBlock s ew = some pipe) :
    CopyKept s (pipeStart s) pipe ∧ (s.fbSize = 3 → pipe = pipeStart s) := by
  simp only [renderBlock, renderSpans, afterWalk_mode, copy] at h
  obtain ⟨⟨cvgbuf, pixel, seed⟩, same⟩ := copyKept_renderCopy h
  exact ⟨⟨cvgbuf, pixel, seed⟩, fun size => same (congrArg BitVec.toNat size)⟩

theorem copyDraws_eq_false {s : State}
    (h : ¬ (s.mode.alphaCompareEn = true ∧ s.mode.ditherAlphaEn = true ∧ s.fbSize = 1)) : copyDraws s = false := by
  have one : s.fbSize.toNat = 1 ↔ s.fbSize = 1 := BitVec.toNat_inj (y := 1#2)
  rw [Bool.eq_false_iff, copyDraws, ne_eq, Bool.and_eq_true, Bool.and_eq_true, beq_iff_eq, one]
  tauto

/-- Settles O39: what each pipeline leaves is said of its `Pipe`, and the stores of a fill by the size of the image. -/
theorem fillAndCopyMode : Obligations.FillAndCopyMode := by
  refine ⟨fun i s hd copy quiet => ?copied, fun i s hd fill size => ?filled, fun s ram p size => ?byte, fun s ram p size => ?half,
    fun s ram p size => ?word⟩
  case copied =>
    cases hr : renderBlock s (blockOf s.mode.cycleType i) with
    | none => exact absurd ((renderBlock_none_iff_raises hd s _).1 hr) (by simp [quiet])
    | some pipe =>
      obtain ⟨⟨cvgbuf, pixel, seed⟩, same⟩ := renderBlock_copy copy hr
      refine ⟨_, exec_drawing hd s, ?_⟩
      rw [edgeWalk_some hr]
      refine ⟨rfl, cvgbuf, pixel, fun size => ?_, fun draws => seed (copyDraws_eq_false draws)⟩
      rw [same size]
      exact ⟨rfl, rfl⟩
  case filled =>
    have nonzero : s.fbSize.toNat ≠ 0 := fun zero => size (BitVec.eq_of_toNat_eq zero)
    refine ⟨_, exec_drawing hd s, ?_⟩
    rw [edgeWalk_some (renderBlock_fill fill nonzero)]
    exact ⟨rfl, rfl, rfl, rfl, rfl⟩
  case byte => exact fbFill_byte s ram p size
  case half =>
    rw [fbFill_half size, fbHalf, asr_unsigned]
    rfl
  case word =>
    rw [fbFill_word s ram p size, fbWord, asr_unsigned]
    rfl

end Sys2Proof.Machine
end
